-- ==== Sys2Proof/Word.lean ====
section
/-! DEFINITION. The two widths the block moves (00_scope.md R11, R12; 20_memory.md R50). -/

namespace Sys2Proof

/-- A byte of an endpoint bank or of the descriptor ROM (R12, R50). -/
abbrev Byte := BitVec 8

/-- A 16-bit word: wValue, wIndex, wLength, `total`, `sent` (R11, R16). -/
abbrev Word := BitVec 16

/-- A device address, 7 bits (R11, R27). -/
abbrev Addr := BitVec 7

/-- An endpoint number, 4 bits (R25). -/
abbrev EpNum := BitVec 4

end Sys2Proof
end

