-- ==== Sys2Proof/Config.lean ====
section
/-! DEFINITION. The configuration: the constants the source fixes, the record of OPEN parameters with
its default P0 (00_scope.md R9), and the one free value, the oracle EP_CONFIG_OK (20_memory.md R36). -/

namespace Sys2Proof

/-- `TYPE_ROUTING` (R9, R63). -/
inductive TypeRouting where
  | exact
  | bit6
  deriving DecidableEq, Repr

/-- `SERIAL_RX_MODE` (R9, R134). -/
inductive SerialRxMode where
  | ignored
  | classify
  deriving DecidableEq, Repr

/-- `SERIAL_TX_ON_OUT` (R9, R117). -/
inductive SerialTxOnOut where
  | none
  | forward
  deriving DecidableEq, Repr

/-- `VENDOR_CODES`: the bRequest value of each vendor request (R9, R65). -/
structure VendorCodes where
  reset : Byte
  modemCtrl : Byte
  setFlowCtrl : Byte
  setBaudRate : Byte
  setData : Byte
  setLatencyTimer : Byte
  getModemStatus : Byte
  getLatencyTimer : Byte
  readEeprom : Byte
  deriving DecidableEq, Repr

/-- The OPEN parameters of R9: the model takes them as an argument (field `params` of State). -/
structure Params where
  epIn : EpNum
  epOut : EpNum
  banner : List Byte
  latencyDefault : Byte
  modemStatus : Byte
  vid : Word
  pid : Word
  bcdDevice : Word
  devClass : Byte
  devSubClass : Byte
  devProtocol : Byte
  cfgValue : Byte
  cfgAttributes : Byte
  cfgMaxPower : Byte
  ifClass : Byte
  ifSubClass : Byte
  ifProtocol : Byte
  langId : Word
  strProduct : List Word
  strSerial : List Word
  typeRouting : TypeRouting
  serialRxMode : SerialRxMode
  serialTxOnOut : SerialTxOnOut
  vendorCodes : VendorCodes
  deriving DecidableEq, Repr

namespace Config

/-- `EP0_SIZE` (R9, source). -/
def ep0Size : Nat := 64

/-- `BULK_SIZE` (R9, source). -/
def bulkSize : Nat := 64

/-- `TRIGGER` (R9, source). -/
def trigger : Byte := 0x61

/-- `STATUS0` (R9, source). -/
def status0 : Byte := 0x80

/-- `STATUS1` (R9, source). -/
def status1 : Byte := 0x00

/-- `EEPROM_WORD` (R9, source). -/
def eepromWord : List Byte := [0xFF, 0xFF]

/-- `BCD_USB` (R9, decided by the spec, D17). -/
def bcdUsb : Word := 0x0110

/-- FREE VALUE (R36, U3): the endpoint hardware's answer to the n-th EpConfigure that the environment
has not answered through `cfgAnswers`; "a free Bool per call; the model assumes nothing of it".
Log entry 6, DESIGN CHOICE. -/
opaque epConfigOk : Nat → Bool

end Config

/-- The P0 values of `VENDOR_CODES` (R65). -/
def VendorCodes.p0 : VendorCodes where
  reset := 0x00
  modemCtrl := 0x01
  setFlowCtrl := 0x02
  setBaudRate := 0x03
  setData := 0x04
  setLatencyTimer := 0x09
  getModemStatus := 0x05
  getLatencyTimer := 0x0A
  readEeprom := 0x90

/-- P0, the default parameter set (R9). -/
def Params.p0 : Params where
  epIn := 1
  epOut := 2
  banner := [0x48, 0x65, 0x6C, 0x6C, 0x6F, 0x2C, 0x20, 0x77, 0x6F, 0x72, 0x6C, 0x64, 0x21, 0x0D, 0x0A]
  latencyDefault := 0x10
  modemStatus := 0x00
  vid := 0x0403
  pid := 0x6001
  bcdDevice := 0x0600
  devClass := 0x00
  devSubClass := 0x00
  devProtocol := 0x00
  cfgValue := 0x01
  cfgAttributes := 0x80
  cfgMaxPower := 0x32
  ifClass := 0xFF
  ifSubClass := 0xFF
  ifProtocol := 0xFF
  langId := 0x0409
  strProduct := [0x46, 0x54, 0x32, 0x33, 0x32, 0x52, 0x20, 0x55, 0x53, 0x42, 0x20, 0x55, 0x41, 0x52, 0x54]
  strSerial := [0x30, 0x30, 0x30, 0x30, 0x30, 0x30, 0x30, 0x31]
  typeRouting := .exact
  serialRxMode := .ignored
  serialTxOnOut := .none
  vendorCodes := .p0

end Sys2Proof
end

