-- ==== Sys2Proof/Syntax.lean ====
section
/-! DEFINITION. The instructions: one constructor of `Instr` per row of spec/opcode_table.json. -/

namespace Sys2Proof

/-- The direction bit of bmRequestType (30_encoding.md R61). -/
inductive Dir where
  | hostToDevice
  | deviceToHost
  deriving DecidableEq, Repr

/-- The type field of bmRequestType (R61); `cls` is class. -/
inductive ReqType where
  | standard
  | cls
  | vendor
  | reserved
  deriving DecidableEq, Repr

/-- What a SETUP packet says beside its request code: the fields of bmRequestType (R61) and the three
words (R60). No rule reads `recipient` (D7). -/
structure Fields where
  dir : Dir
  typ : ReqType
  recipient : BitVec 5
  wValue : Word
  wIndex : Word
  wLength : Word
  deriving DecidableEq, Repr

/-- The endpoints a host IN may name: e ∈ {0, EP_IN} (60_exceptions.md R129). -/
inductive InPipe where
  | ctl
  | bulk
  deriving DecidableEq, Repr

/-- The endpoints a host OUT may name: e ∈ {0, EP_OUT} (R130). -/
inductive OutPipe where
  | ctl
  | bulk
  deriving DecidableEq, Repr

/-- The rows of spec/opcode_table.json, in the table's order. -/
inductive Instr where
  -- standard requests (41_standard_requests.md)
  | getStatus (f : Fields)
  | clearFeature (f : Fields)
  | setFeature (f : Fields)
  | setAddress (f : Fields)
  | getDescriptor (f : Fields)
  | setDescriptor (f : Fields)
  | getConfiguration (f : Fields)
  | setConfiguration (f : Fields)
  | getInterface (f : Fields)
  | setInterface (f : Fields)
  | synchFrame (f : Fields)
  | stdOther (code : Byte) (f : Fields)
  -- vendor requests (42_vendor_requests.md)
  | vReset (f : Fields)
  | vModemCtrl (f : Fields)
  | vSetFlowCtrl (f : Fields)
  | vSetBaudRate (f : Fields)
  | vSetData (f : Fields)
  | vSetLatencyTimer (f : Fields)
  | vGetModemStatus (f : Fields)
  | vGetLatencyTimer (f : Fields)
  | vReadEeprom (f : Fields)
  | vOther (code : Byte) (f : Fields)
  -- unrouted types (40_control_sequencer.md R85)
  | classType (code : Byte) (f : Fields)
  | reservedType (code : Byte) (f : Fields)
  -- bulk OUT bytes (43_bulk_relay.md)
  | bulkTrigger
  | bulkEcho (b : Byte)
  -- sequencer steps (40_control_sequencer.md, 43_bulk_relay.md)
  | ctlPoll
  | setupCapture
  | inData (src : List Byte) (total sent : Word)
  | inStatus
  | controlWrite
  | addrWait
  | stall
  | bulkOut
  | serialForward (b : Byte)
  | bulkIn
  -- events of the environment (60_exceptions.md)
  | hostSetup (a : Addr) (p : Vector Byte 8)
  | hostIn (a : Addr) (e : InPipe)
  | hostOut (a : Addr) (e : OutPipe) (p : List Byte)
  | busReset
  | vbusOn
  | vbusOff
  | serialRx (b : Byte)
  deriving DecidableEq, Repr

/-- A step of an environment agent: the seven EVENT rows, as the schedule may choose them (R7, R127). -/
inductive Event where
  | hostSetup (a : Addr) (p : Vector Byte 8)
  | hostIn (a : Addr) (e : InPipe)
  | hostOut (a : Addr) (e : OutPipe) (p : List Byte)
  | busReset
  | vbusOn
  | vbusOff
  | serialRx (b : Byte)
  deriving DecidableEq, Repr

/-- The row of the table that an event is. -/
def Event.instr : Event → Instr
  | .hostSetup a p => .hostSetup a p
  | .hostIn a e => .hostIn a e
  | .hostOut a e p => .hostOut a e p
  | .busReset => .busReset
  | .vbusOn => .vbusOn
  | .vbusOff => .vbusOff
  | .serialRx b => .serialRx b

/-- The row's mnemonic, as the table spells it. -/
def Instr.mnemonic : Instr → String
  | .getStatus _ => "GET_STATUS"
  | .clearFeature _ => "CLEAR_FEATURE"
  | .setFeature _ => "SET_FEATURE"
  | .setAddress _ => "SET_ADDRESS"
  | .getDescriptor _ => "GET_DESCRIPTOR"
  | .setDescriptor _ => "SET_DESCRIPTOR"
  | .getConfiguration _ => "GET_CONFIGURATION"
  | .setConfiguration _ => "SET_CONFIGURATION"
  | .getInterface _ => "GET_INTERFACE"
  | .setInterface _ => "SET_INTERFACE"
  | .synchFrame _ => "SYNCH_FRAME"
  | .stdOther _ _ => "STD_OTHER"
  | .vReset _ => "V_RESET"
  | .vModemCtrl _ => "V_MODEM_CTRL"
  | .vSetFlowCtrl _ => "V_SET_FLOW_CTRL"
  | .vSetBaudRate _ => "V_SET_BAUD_RATE"
  | .vSetData _ => "V_SET_DATA"
  | .vSetLatencyTimer _ => "V_SET_LATENCY_TIMER"
  | .vGetModemStatus _ => "V_GET_MODEM_STATUS"
  | .vGetLatencyTimer _ => "V_GET_LATENCY_TIMER"
  | .vReadEeprom _ => "V_READ_EEPROM"
  | .vOther _ _ => "V_OTHER"
  | .classType _ _ => "CLASS_TYPE"
  | .reservedType _ _ => "RESERVED_TYPE"
  | .bulkTrigger => "BULK_TRIGGER"
  | .bulkEcho _ => "BULK_ECHO"
  | .ctlPoll => "CTL_POLL"
  | .setupCapture => "SETUP_CAPTURE"
  | .inData _ _ _ => "IN_DATA"
  | .inStatus => "IN_STATUS"
  | .controlWrite => "CONTROL_WRITE"
  | .addrWait => "ADDR_WAIT"
  | .stall => "STALL"
  | .bulkOut => "BULK_OUT"
  | .serialForward _ => "SERIAL_FORWARD"
  | .bulkIn => "BULK_IN"
  | .hostSetup _ _ => "HOST_SETUP"
  | .hostIn _ _ => "HOST_IN"
  | .hostOut _ _ _ => "HOST_OUT"
  | .busReset => "BUSRESET"
  | .vbusOn => "VBUS_ON"
  | .vbusOff => "VBUS_OFF"
  | .serialRx _ => "SERIALRX"

end Sys2Proof
end

