-- ==== Sys2Proof/Machine/Routing.lean ====
section
/-! DEFINITION. Which dispatcher a request type reaches (30_encoding.md R63) and the request codes of the
two dispatchers (R64, R65). Decode, Encode and WellFormed all use these tables. -/

namespace Sys2Proof

/-- Where a request is routed (R63): a dispatcher, or neither (the request stalls, R85). -/
inductive Dispatcher where
  | std
  | shim
  | unrouted
  deriving DecidableEq, Repr

/-- Routing by type under `TYPE_ROUTING` (R63, 40_control_sequencer.md R77). -/
def TypeRouting.dispatcher : TypeRouting → ReqType → Dispatcher
  | .exact, .standard => .std
  | .exact, .cls => .unrouted
  | .exact, .vendor => .shim
  | .exact, .reserved => .unrouted
  | .bit6, .standard => .std
  | .bit6, .cls => .std
  | .bit6, .vendor => .shim
  | .bit6, .reserved => .shim

/-- The standard request codes of R64. -/
def StdCode.getStatus : Byte := 0x00
def StdCode.clearFeature : Byte := 0x01
def StdCode.setFeature : Byte := 0x03
def StdCode.setAddress : Byte := 0x05
def StdCode.getDescriptor : Byte := 0x06
def StdCode.setDescriptor : Byte := 0x07
def StdCode.getConfiguration : Byte := 0x08
def StdCode.setConfiguration : Byte := 0x09
def StdCode.getInterface : Byte := 0x0A
def StdCode.setInterface : Byte := 0x0B
def StdCode.synchFrame : Byte := 0x0C

/-- The standard codes that have a row of their own (R64). -/
def StdCode.all : List Byte :=
  [StdCode.getStatus, StdCode.clearFeature, StdCode.setFeature, StdCode.setAddress, StdCode.getDescriptor,
   StdCode.setDescriptor, StdCode.getConfiguration, StdCode.setConfiguration, StdCode.getInterface,
   StdCode.setInterface, StdCode.synchFrame]

/-- The vendor codes recognised in one direction (R65). -/
def VendorCodes.known (c : VendorCodes) : Dir → List Byte
  | .hostToDevice => [c.reset, c.modemCtrl, c.setFlowCtrl, c.setBaudRate, c.setData, c.setLatencyTimer]
  | .deviceToHost => [c.getModemStatus, c.getLatencyTimer, c.readEeprom]

/-- The row a standard request code selects (R64, R89; R101 for the reserved codes). -/
def stdRow (code : Byte) (f : Fields) : Instr :=
  if code = StdCode.getStatus then .getStatus f
  else if code = StdCode.clearFeature then .clearFeature f
  else if code = StdCode.setFeature then .setFeature f
  else if code = StdCode.setAddress then .setAddress f
  else if code = StdCode.getDescriptor then .getDescriptor f
  else if code = StdCode.setDescriptor then .setDescriptor f
  else if code = StdCode.getConfiguration then .getConfiguration f
  else if code = StdCode.setConfiguration then .setConfiguration f
  else if code = StdCode.getInterface then .getInterface f
  else if code = StdCode.setInterface then .setInterface f
  else if code = StdCode.synchFrame then .synchFrame f
  else .stdOther code f

/-- The row a vendor (direction, code) pair selects (R65, R102; R112 for every other pair). -/
def vendorRow (c : VendorCodes) (code : Byte) (f : Fields) : Instr :=
  match f.dir with
  | .hostToDevice =>
    if code = c.reset then .vReset f
    else if code = c.modemCtrl then .vModemCtrl f
    else if code = c.setFlowCtrl then .vSetFlowCtrl f
    else if code = c.setBaudRate then .vSetBaudRate f
    else if code = c.setData then .vSetData f
    else if code = c.setLatencyTimer then .vSetLatencyTimer f
    else .vOther code f
  | .deviceToHost =>
    if code = c.getModemStatus then .vGetModemStatus f
    else if code = c.getLatencyTimer then .vGetLatencyTimer f
    else if code = c.readEeprom then .vReadEeprom f
    else .vOther code f

/-- The row of a request of an unrouted type (R85): the rows CLASS_TYPE and RESERVED_TYPE. -/
def unroutedRow (code : Byte) (f : Fields) : Instr :=
  match f.typ with
  | .reserved => .reservedType code f
  | .cls => .classType code f
  | .standard => .classType code f
  | .vendor => .classType code f

/-- The row of a request: routing by type, then the dispatcher's table (R62, R63, R77). -/
def requestRow (p : Params) (code : Byte) (f : Fields) : Instr :=
  match p.typeRouting.dispatcher f.typ with
  | .std => stdRow code f
  | .shim => vendorRow p.vendorCodes code f
  | .unrouted => unroutedRow code f

end Sys2Proof
end

