-- ==== Sys2Proof/WellFormed.lean ====
section
/-! DEFINITION. When a parameter record (00_scope.md R10) and an instruction are well formed. -/

namespace Sys2Proof

/-- The encoded length of a string descriptor: 2 + 2·units (R10, 20_memory.md R52). -/
def stringLength (u : List Word) : Nat := 2 + 2 * u.length

/-- Well-formedness of a parameter record (R10). -/
def Params.wf (p : Params) : Bool :=
  p.epIn ≠ p.epOut && p.epIn ≠ 0 && p.epOut ≠ 0
    && decide (p.banner.length ≤ Config.bulkSize - 2)
    && decide (stringLength p.strProduct ≤ 255) && decide (stringLength p.strSerial ≤ 255)
    && decide (p.vendorCodes.known .hostToDevice).Nodup
    && decide (p.vendorCodes.known .deviceToHost).Nodup

/-- A standard row's fields: the type is routed to the standard dispatcher (R63). -/
def stdFieldsOk (p : Params) (f : Fields) : Bool :=
  p.typeRouting.dispatcher f.typ = .std

/-- A vendor row's fields: the type is routed to the shim (R63) and the direction is the row's (R65). -/
def vendorFieldsOk (p : Params) (d : Dir) (f : Fields) : Bool :=
  p.typeRouting.dispatcher f.typ = .shim && f.dir = d

/-- Whether an instruction is one the table describes, under the parameters in force. -/
def wellFormed (p : Params) : Instr → Bool
  | .getStatus f => stdFieldsOk p f
  | .clearFeature f => stdFieldsOk p f
  | .setFeature f => stdFieldsOk p f
  | .setAddress f => stdFieldsOk p f
  | .getDescriptor f => stdFieldsOk p f
  | .setDescriptor f => stdFieldsOk p f
  | .getConfiguration f => stdFieldsOk p f
  | .setConfiguration f => stdFieldsOk p f
  | .getInterface f => stdFieldsOk p f
  | .setInterface f => stdFieldsOk p f
  | .synchFrame f => stdFieldsOk p f
  | .stdOther code f => stdFieldsOk p f && decide (code ∉ StdCode.all)
  | .vReset f => vendorFieldsOk p .hostToDevice f
  | .vModemCtrl f => vendorFieldsOk p .hostToDevice f
  | .vSetFlowCtrl f => vendorFieldsOk p .hostToDevice f
  | .vSetBaudRate f => vendorFieldsOk p .hostToDevice f
  | .vSetData f => vendorFieldsOk p .hostToDevice f
  | .vSetLatencyTimer f => vendorFieldsOk p .hostToDevice f
  | .vGetModemStatus f => vendorFieldsOk p .deviceToHost f
  | .vGetLatencyTimer f => vendorFieldsOk p .deviceToHost f
  | .vReadEeprom f => vendorFieldsOk p .deviceToHost f
  | .vOther code f =>
    decide (p.typeRouting.dispatcher f.typ = .shim) && decide (code ∉ p.vendorCodes.known f.dir)
  | .classType _ f => p.typeRouting = .exact && f.typ = .cls
  | .reservedType _ f => p.typeRouting = .exact && f.typ = .reserved
  | .bulkTrigger => true
  | .bulkEcho b => b ≠ Config.trigger
  | .ctlPoll => true
  | .setupCapture => true
  | .inData src total sent => decide (sent.toNat ≤ total.toNat) && decide (total.toNat ≤ src.length)
  | .inStatus => true
  | .controlWrite => true
  | .addrWait => true
  | .stall => true
  | .bulkOut => true
  | .serialForward _ => true
  | .bulkIn => true
  | .hostSetup _ _ => true
  | .hostIn _ _ => true
  | .hostOut _ .ctl b => decide (b.length ≤ Config.ep0Size)
  | .hostOut _ .bulk b => decide (b.length ≤ Config.bulkSize)
  | .busReset => true
  | .vbusOn => true
  | .vbusOff => true
  | .serialRx _ => true

end Sys2Proof
end

