-- ==== Sys2Proof/Decode.lean ====
section
/-! DEFINITION. The eight bytes of a SETUP packet and the bytes of a bulk OUT packet, decoded and encoded
(30_encoding.md R60 to R69), with the byte-order and bit-field helpers (R12, R48, R61) and the match and
mask table of R62. -/

namespace Sys2Proof

/-- `lo8(w) = w[7:0]` (R12). -/
def lo8 (w : Word) : Byte := w.extractLsb' 0 8

/-- `hi8(w) = w[15:8]` (R12). -/
def hi8 (w : Word) : Byte := w.extractLsb' 8 8

/-- The word whose low byte comes first: `(hi << 8) | lo` (20_memory.md R40, R48). -/
def le16 (lo hi : Byte) : Word := hi ++ lo

/-- A word as its two bytes, the low one first (R48). -/
def bytes16 (w : Word) : List Byte := [lo8 w, hi8 w]

/-- The SetupRequest record: the eight SETUP bytes as fields (10_state.md R17, R60). -/
structure SetupRequest where
  bmRequestType : Byte
  bRequest : Byte
  wValue : Word
  wIndex : Word
  wLength : Word
  deriving DecidableEq, Repr

/-- The direction bit, bmRequestType[7] (R61). -/
def dirOf (bm : Byte) : Dir := if bm.getLsbD 7 then .deviceToHost else .hostToDevice

/-- The type field, bmRequestType[6:5] (R61). -/
def typOf (bm : Byte) : ReqType :=
  match bm.getLsbD 6, bm.getLsbD 5 with
  | false, false => .standard
  | false, true => .cls
  | true, false => .vendor
  | true, true => .reserved

/-- The recipient field, bmRequestType[4:0] (R61). -/
def recipientOf (bm : Byte) : BitVec 5 := bm.extractLsb' 0 5

/-- The direction as its bit (R61). -/
def Dir.bit : Dir → BitVec 1
  | .hostToDevice => 0
  | .deviceToHost => 1

/-- The type as its two bits (R61). -/
def ReqType.bits : ReqType → BitVec 2
  | .standard => 0
  | .cls => 1
  | .vendor => 2
  | .reserved => 3

/-- `bmRequestType = dir<<7 | type<<5 | recip` (R61, R72). -/
def Fields.bmRequestType (f : Fields) : Byte := f.dir.bit ++ f.typ.bits ++ f.recipient

/-- The request that fields and a request code make. -/
def Fields.request (f : Fields) (code : Byte) : SetupRequest where
  bmRequestType := f.bmRequestType
  bRequest := code
  wValue := f.wValue
  wIndex := f.wIndex
  wLength := f.wLength

/-- The fields of a request beside its code (R61). -/
def SetupRequest.fields (q : SetupRequest) : Fields where
  dir := dirOf q.bmRequestType
  typ := typOf q.bmRequestType
  recipient := recipientOf q.bmRequestType
  wValue := q.wValue
  wIndex := q.wIndex
  wLength := q.wLength

/-- The eight bytes of a request, in the order of R60. -/
def SetupRequest.bytes (q : SetupRequest) : List Byte :=
  [q.bmRequestType, q.bRequest] ++ bytes16 q.wValue ++ bytes16 q.wIndex ++ bytes16 q.wLength

/-- Why bytes are no instruction. -/
inductive DecodeError where
  /-- a SETUP packet is exactly eight bytes (R60) -/
  | notEightBytes
  deriving DecidableEq, Repr

/-- The request in a bank of eight bytes (R60). -/
def requestOfBytes : List Byte → Except DecodeError SetupRequest
  | [b0, b1, b2, b3, b4, b5, b6, b7] =>
    .ok { bmRequestType := b0, bRequest := b1, wValue := le16 b2 b3, wIndex := le16 b4 b5, wLength := le16 b6 b7 }
  | _ => .error .notEightBytes

/-- The row of a captured request (R62, R63, R77). -/
def decodeRequest (p : Params) (q : SetupRequest) : Instr := requestRow p q.bRequest q.fields

/-- The SETUP decoder: eight bytes to the row they select (R60 to R65). -/
def decodeSetup (p : Params) (bytes : List Byte) : Except DecodeError Instr :=
  match requestOfBytes bytes with
  | .ok q => .ok (decodeRequest p q)
  | .error e => .error e

/-- The decoder of one byte of a bulk OUT packet (R69). -/
def decodeBulkByte (b : Byte) : Instr := if b = Config.trigger then .bulkTrigger else .bulkEcho b

/-! ## The encoder -/

/-- The request a request row stands for, with its code from R64 or R65; no other row has one. -/
def Instr.request (p : Params) : Instr → Option SetupRequest
  | .getStatus f => some (f.request StdCode.getStatus)
  | .clearFeature f => some (f.request StdCode.clearFeature)
  | .setFeature f => some (f.request StdCode.setFeature)
  | .setAddress f => some (f.request StdCode.setAddress)
  | .getDescriptor f => some (f.request StdCode.getDescriptor)
  | .setDescriptor f => some (f.request StdCode.setDescriptor)
  | .getConfiguration f => some (f.request StdCode.getConfiguration)
  | .setConfiguration f => some (f.request StdCode.setConfiguration)
  | .getInterface f => some (f.request StdCode.getInterface)
  | .setInterface f => some (f.request StdCode.setInterface)
  | .synchFrame f => some (f.request StdCode.synchFrame)
  | .stdOther code f => some (f.request code)
  | .vReset f => some (f.request p.vendorCodes.reset)
  | .vModemCtrl f => some (f.request p.vendorCodes.modemCtrl)
  | .vSetFlowCtrl f => some (f.request p.vendorCodes.setFlowCtrl)
  | .vSetBaudRate f => some (f.request p.vendorCodes.setBaudRate)
  | .vSetData f => some (f.request p.vendorCodes.setData)
  | .vSetLatencyTimer f => some (f.request p.vendorCodes.setLatencyTimer)
  | .vGetModemStatus f => some (f.request p.vendorCodes.getModemStatus)
  | .vGetLatencyTimer f => some (f.request p.vendorCodes.getLatencyTimer)
  | .vReadEeprom f => some (f.request p.vendorCodes.readEeprom)
  | .vOther code f => some (f.request code)
  | .classType code f => some (f.request code)
  | .reservedType code f => some (f.request code)
  | .bulkTrigger | .bulkEcho _ | .ctlPoll | .setupCapture | .inData _ _ _ | .inStatus | .controlWrite
  | .addrWait | .stall | .bulkOut | .serialForward _ | .bulkIn | .hostSetup _ _ | .hostIn _ _
  | .hostOut _ _ _ | .busReset | .vbusOn | .vbusOff | .serialRx _ => none

/-- The byte of a bulk-byte row (R69); no other row has one. -/
def Instr.bulkByte : Instr → Option Byte
  | .bulkTrigger => some Config.trigger
  | .bulkEcho b => some b
  | .getStatus _ | .clearFeature _ | .setFeature _ | .setAddress _ | .getDescriptor _ | .setDescriptor _
  | .getConfiguration _ | .setConfiguration _ | .getInterface _ | .setInterface _ | .synchFrame _
  | .stdOther _ _ | .vReset _ | .vModemCtrl _ | .vSetFlowCtrl _ | .vSetBaudRate _ | .vSetData _
  | .vSetLatencyTimer _ | .vGetModemStatus _ | .vGetLatencyTimer _ | .vReadEeprom _ | .vOther _ _
  | .classType _ _ | .reservedType _ _ | .ctlPoll | .setupCapture | .inData _ _ _ | .inStatus
  | .controlWrite | .addrWait | .stall | .bulkOut | .serialForward _ | .bulkIn | .hostSetup _ _
  | .hostIn _ _ | .hostOut _ _ _ | .busReset | .vbusOn | .vbusOff | .serialRx _ => none

/-- The bytes of an instruction: eight for a request (R60), one for a bulk byte (R69), none for an
internal step or an event, which have no encoding. -/
def encode (p : Params) (i : Instr) : Option (List Byte) :=
  match i.request p, i.bulkByte with
  | some q, _ => some q.bytes
  | none, some b => some [b]
  | none, none => none

/-- Bytes to an instruction: one byte is a bulk byte, else a SETUP packet. -/
def decode (p : Params) : List Byte → Except DecodeError Instr
  | [b] => .ok (decodeBulkByte b)
  | bytes => decodeSetup p bytes

/-! ## The match and mask table (R62) -/

/-- The decode key `K = (bmRequestType << 8) | bRequest` (R62). -/
def SetupRequest.key (q : SetupRequest) : Word := q.bmRequestType ++ q.bRequest

/-- One SETUP row of the table: its match and mask over K and its priority (R62). -/
structure TableRow where
  mnemonic : String
  pattern : Word
  mask : Word
  priority : Nat
  deriving DecidableEq, Repr

/-- A row matches when `(K & mask) = match` (R62). -/
def TableRow.hits (r : TableRow) (k : Word) : Bool := k &&& r.mask = r.pattern

/-- The SETUP rows under the parameters in force: the table's masks, which keep bit 14 of the type only
under `Bit6` (R63), and the codes of `VENDOR_CODES`. -/
def tableRows (p : Params) : List TableRow :=
  let m : Word := match p.typeRouting with | .exact => 0xFFFF | .bit6 => ~~~0x2000
  let std (n : String) (c : Byte) : TableRow := ⟨n, (0x00 : Byte) ++ c, 0x60FF &&& m, 0⟩
  let out (n : String) (c : Byte) : TableRow := ⟨n, (0x40 : Byte) ++ c, 0xE0FF &&& m, 0⟩
  let inn (n : String) (c : Byte) : TableRow := ⟨n, (0xC0 : Byte) ++ c, 0xE0FF &&& m, 0⟩
  let v := p.vendorCodes
  [std "GET_STATUS" 0x00, std "CLEAR_FEATURE" 0x01, std "SET_FEATURE" 0x03, std "SET_ADDRESS" 0x05,
   std "GET_DESCRIPTOR" 0x06, std "SET_DESCRIPTOR" 0x07, std "GET_CONFIGURATION" 0x08,
   std "SET_CONFIGURATION" 0x09, std "GET_INTERFACE" 0x0A, std "SET_INTERFACE" 0x0B,
   std "SYNCH_FRAME" 0x0C, ⟨"STD_OTHER", 0x0000, 0x6000 &&& m, 1⟩,
   out "V_RESET" v.reset, out "V_MODEM_CTRL" v.modemCtrl, out "V_SET_FLOW_CTRL" v.setFlowCtrl,
   out "V_SET_BAUD_RATE" v.setBaudRate, out "V_SET_DATA" v.setData,
   out "V_SET_LATENCY_TIMER" v.setLatencyTimer, inn "V_GET_MODEM_STATUS" v.getModemStatus,
   inn "V_GET_LATENCY_TIMER" v.getLatencyTimer, inn "V_READ_EEPROM" v.readEeprom,
   ⟨"V_OTHER", 0x4000, 0x6000 &&& m, 1⟩]
    ++ (match p.typeRouting with
        | .exact => [⟨"CLASS_TYPE", 0x2000, 0x6000, 1⟩, ⟨"RESERVED_TYPE", 0x6000, 0x6000, 1⟩]
        | .bit6 => [])

/-- The row the table selects for a key: of the rows that match, one of the lowest priority number (R62). -/
def tableLookup (p : Params) (k : Word) : Option String :=
  (((tableRows p).filter fun r => r.hits k && r.priority = 0)
    ++ ((tableRows p).filter fun r => r.hits k && r.priority = 1)).head?.map (·.mnemonic)

/-! ## The host's numbering of the table's bits -/

/-- The bytes of the table's word w in bank order: K's high byte (bmRequestType) first, then bRequest,
then the operand words in the order of R60, low byte first. -/
def tableBytes (w : Nat) : List Byte :=
  [.ofNat 8 (w >>> 8), .ofNat 8 w, .ofNat 8 (w >>> 16), .ofNat 8 (w >>> 24), .ofNat 8 (w >>> 32),
   .ofNat 8 (w >>> 40), .ofNat 8 (w >>> 48), .ofNat 8 (w >>> 56)]

/-- The instruction the decoder reads from the table's word of nbits bits, under P0: up to 8 bits is a
bulk byte, up to 64 a SETUP packet. -/
def decodeTableWord (nbits w : Nat) : Option Instr :=
  if nbits ≤ 8 then some (decodeBulkByte (.ofNat 8 w))
  else if nbits ≤ 64 then
    match decodeSetup .p0 (tableBytes w) with
    | .ok i => some i
    | .error _ => none
  else none

end Sys2Proof
end

