-- ==== Sys2Proof/Machine/State.lean ====
section
/-! DEFINITION. The machine's state (10_state.md), the reasons a step stops, and the state after reset. -/

namespace Sys2Proof.Machine

/-- The sequencer's program counter (R16). -/
inductive Phase where
  | ctlPoll
  /-- streaming an IN data stage: response bytes, number to send, number committed so far -/
  | inData (src : List Byte) (total sent : Word)
  | inStatus
  | addrWait
  | bulkOut
  | bulkIn
  /-- the fault state of 60_exceptions.md R126 -/
  | halted
  deriving DecidableEq, Repr

/-- DeviceConfigurationState, CR0 and CR1 (R18, R30). -/
structure DeviceConfig where
  cfgValue : Byte
  curAddr : Addr
  deriving DecidableEq, Repr

/-- ConnectionState, CR3 (R20). -/
inductive Conn where
  | disconnected
  | enumerated
  deriving DecidableEq, Repr

/-- What the relay has pending, CR4 (R21); the code 3 of R30 is no value. -/
inductive Pending where
  | none
  | echo
  | banner
  deriving DecidableEq, Repr

/-- RelayBuffer, CR4 and CR5 (R21): `lastIn = none` is the spec's own "no byte received yet". -/
structure Relay where
  pending : Pending
  lastIn : Option Byte
  deriving DecidableEq, Repr

/-- The fault codes of 60_exceptions.md R121. -/
inductive FaultCode where
  /-- code 1 -/
  | invariantViolation
  /-- code 2 -/
  | endpointConfig
  deriving DecidableEq, Repr

/-- The host-observed trace of USB transactions (R23, R136). -/
inductive WireEntry where
  | setupAck (p : List Byte)
  | inData (e : EpNum) (q : List Byte)
  | nak (e : EpNum)
  | stall (e : EpNum)
  | outAck (e : EpNum) (n : Nat)
  | timeout (a : Addr) (e : EpNum)
  | busReset
  deriving DecidableEq, Repr

/-- The diagnostic events (R23, R135). -/
inductive DiagEvent where
  | unknownVendor (bmRequestType bRequest : Byte)
  | haltMarker (code : FaultCode)
  | connected
  | disconnected
  deriving DecidableEq, Repr

/-- One endpoint's flags and banks (R26). -/
structure Endpoint where
  armed : Bool
  rxstp : Bool
  rxout : Bool
  txrdy : Bool
  stall : Bool
  outBuf : List Byte
  inBuf : List Byte
  inQ : Option (List Byte)
  deriving DecidableEq, Repr

/-- An endpoint that is not configured: every flag false, banks empty (R34, R131). -/
def Endpoint.disarmed : Endpoint where
  armed := false
  rxstp := false
  rxout := false
  txrdy := false
  stall := false
  outBuf := []
  inBuf := []
  inQ := none

/-- Endpoint 0 after power-on startup (R34). -/
def Endpoint.ctlReady : Endpoint where
  armed := true
  rxstp := false
  rxout := false
  txrdy := true
  stall := false
  outBuf := []
  inBuf := []
  inQ := none

/-- One choice of the schedule (00_scope.md R7): the sequencer, an event of the environment, or power-on
startup (70_reset_and_hazards.md R146). Log entry 2, DESIGN CHOICE. -/
inductive Turn where
  | sequencer
  | event (e : Event)
  | powerOn
  deriving DecidableEq, Repr

/-- The machine's state: core state (R16 to R23), endpoint window (R25 to R27), environment (R28), the
OPEN parameters (R9), and three fields of the model's own. -/
structure State where
  /-- the parameter record the machine is launched with (R9) -/
  params : Params
  phase : Phase
  /-- R17; `none` before the first capture -/
  setup : Option SetupRequest
  cfg : DeviceConfig
  /-- R19, CR2; `none` is the spec's own value -/
  pendAddr : Option Addr
  conn : Conn
  relay : Relay
  /-- R22, CR6; `none` is the spec's own value -/
  fault : Option FaultCode
  wire : List WireEntry
  diag : List DiagEvent
  serialOut : List Byte
  /-- R25, CR7 -/
  sel : EpNum
  /-- `ep[0]` (R26) -/
  ep0 : Endpoint
  /-- `ep[EP_IN]` (R26) -/
  epIn : Endpoint
  /-- `ep[EP_OUT]` (R26) -/
  epOut : Endpoint
  /-- R27, CR8 -/
  devAddr : Addr
  addrEn : Bool
  /-- R28 -/
  vbus : Bool
  /-- the model's own: the schedule's choices still to come; when none is left the sequencer has the
  turn (log entry 2, DESIGN CHOICE) -/
  sched : List Turn
  /-- the model's own: the endpoint hardware's answers to EpConfigure that the environment has fixed
  (R36); when none is left the free value `Config.epConfigOk` answers (log entry 6, DESIGN CHOICE) -/
  cfgAnswers : List Bool
  /-- the model's own: how many draws `Config.epConfigOk` has answered (log entry 6, DESIGN CHOICE) -/
  cfgDraws : Nat
  deriving DecidableEq, Repr

/-- Why a step answers a fault. -/
inductive Fault where
  /-- The sequencer's turn in the fault state, whose fault register holds `code`: raised by step alone.
  "A model should treat it as a fault outcome" (60_exceptions.md R126). Safe: the machine has no
  sequencer step there either (log entry 4, DEDUCED). -/
  | halted (code : Option FaultCode)
  deriving DecidableEq, Repr

/-- Why a step is refused. -/
inductive Refusal where
  /-- An instruction without a meaning: raised by no arm of exec in this model. Safe. -/
  | notModelled (mnemonic : String)
  /-- The parameter record breaks 00_scope.md R10, "refused: the model gives it no meaning": raised by
  step. Safe (log entry 17, DEDUCED). -/
  | illFormedParams
  /-- The schedule names a host step outside its rule's domain, a HOST_OUT longer than the packet size
  (60_exceptions.md R130): raised by step. Safe (log entry 17, DEDUCED). -/
  | illFormedEvent
  /-- A write of the descriptor ROM, which R13 refuses: raised by `memWrite`, which no instruction uses.
  Safe (log entry 16, DEDUCED). -/
  | romWrite
  deriving DecidableEq, Repr

/-- The machine right after power-on startup (R34, 70_reset_and_hazards.md R146), launched with P0.
The spec leaves the answer of startup's EpConfigure(0) free (R36, U3): DESIGN CHOICE, this state is the outcome of
a startup that was answered ok, with no draw taken (log entry 27); a startup that draws is the turn `powerOn`.
`sel` and `vbus` have no value in the spec: DESIGN CHOICE 0 and false (log entries 8 and 7). The last
three fields are the model's own: DESIGN CHOICE (log entries 2 and 6). -/
def State.reset : State where
  params := .p0
  phase := .ctlPoll
  setup := none
  cfg := { cfgValue := 0, curAddr := 0 }
  pendAddr := none
  conn := .disconnected
  relay := { pending := .none, lastIn := none }
  fault := none
  wire := []
  diag := []
  serialOut := []
  sel := 0
  ep0 := .ctlReady
  epIn := .disarmed
  epOut := .disarmed
  devAddr := 0
  addrEn := false
  vbus := false
  sched := []
  cfgAnswers := []
  cfgDraws := 0

end Sys2Proof.Machine
end

