-- ==== Sys2Proof/Machine/Rom.lean ====
section
/-! DEFINITION. The descriptor ROM (20_memory.md R51 to R56): its bytes, its layout and its lookup. It is a
function of the parameters and is never written (R59). -/

namespace Sys2Proof.Machine

/-- The device descriptor, 18 bytes (R53). -/
def deviceDescriptor (p : Params) : List Byte :=
  [0x12, 0x01] ++ bytes16 Config.bcdUsb ++ [p.devClass, p.devSubClass, p.devProtocol, .ofNat 8 Config.ep0Size]
    ++ bytes16 p.vid ++ bytes16 p.pid ++ bytes16 p.bcdDevice ++ [0x00, 0x01, 0x02, 0x01]

/-- The configuration descriptor, 9 bytes (R54, block bytes 0 to 8). -/
def configurationDescriptor (p : Params) : List Byte :=
  [0x09, 0x02] ++ bytes16 0x0020 ++ [0x01, p.cfgValue, 0x00, p.cfgAttributes, p.cfgMaxPower]

/-- The interface descriptor, 9 bytes (R54, block bytes 9 to 17). -/
def interfaceDescriptor (p : Params) : List Byte :=
  [0x09, 0x04, 0x00, 0x00, 0x02, p.ifClass, p.ifSubClass, p.ifProtocol, 0x00]

/-- An endpoint descriptor of a bulk endpoint, 7 bytes (R54, block bytes 18 to 24 and 25 to 31). -/
def endpointDescriptor (address : Byte) : List Byte :=
  [0x07, 0x05, address, 0x02] ++ bytes16 (.ofNat 16 Config.bulkSize) ++ [0x00]

/-- The configuration block, 32 bytes, served as one unit (R54). -/
def configurationBlock (p : Params) : List Byte :=
  configurationDescriptor p ++ interfaceDescriptor p
    ++ endpointDescriptor (0x80 ||| p.epIn.setWidth 8) ++ endpointDescriptor (p.epOut.setWidth 8)

/-- String 0, the language ids (R55). -/
def languageString (p : Params) : List Byte := [0x04, 0x03] ++ bytes16 p.langId

/-- A string descriptor of UTF-16LE code units (R55). -/
def stringDescriptor (u : List Word) : List Byte := [.ofNat 8 (stringLength u), 0x03] ++ u.flatMap bytes16

/-- The ROM, records in the order of R52. -/
def rom (p : Params) : List Byte :=
  deviceDescriptor p ++ configurationBlock p ++ languageString p ++ stringDescriptor p.strProduct
    ++ stringDescriptor p.strSerial

/-- One byte of the ROM; `none` past its end. -/
def romByte (p : Params) (addr : Nat) : Option Byte := (rom p)[addr]?

/-- Descriptor lookup (R56): the offset and native length of a known (type, index), else fail. -/
def lookup (p : Params) (type index : Byte) : Option (Nat × Nat) :=
  if type = 0x01 ∧ index = 0 then some (0x00, 18)
  else if type = 0x02 ∧ index = 0 then some (0x12, 32)
  else if type = 0x03 ∧ index = 0 then some (0x32, 4)
  else if type = 0x03 ∧ index = 1 then some (0x36, stringLength p.strProduct)
  else if type = 0x03 ∧ index = 2 then some (0x36 + stringLength p.strProduct, stringLength p.strSerial)
  else none

end Sys2Proof.Machine
end

