-- ==== Sys2Proof/Machine/Ops.lean ====
section
/-! DEFINITION. The named operations: entering the fault state and leaving it by power-on startup, the
outputs, the endpoint-window primitives (20_memory.md R35 to R47; the flag operations are in Flags.lean)
and the descriptor reads (R52). -/

namespace Sys2Proof.Machine

/-! ## The result of an operation -/

/-- What an operation inside an atomic step answers: a value and the state, or the fault state that a
`raise` entered, after which "the rest of the raising step is not performed" (60_exceptions.md R124). -/
inductive Res (α : Type) where
  | ok (a : α) (s : State)
  | raised (s : State)
  deriving DecidableEq, Repr

/-- Sequencing: a raise ends the step. -/
def Res.bind {α β : Type} (r : Res α) (k : α → State → Res β) : Res β :=
  match r with
  | .ok a s => k a s
  | .raised s => .raised s

/-- The state a whole step leaves, raised or not: "no state it wrote before the raise is undone" (R124). -/
def Res.state {α : Type} : Res α → State
  | .ok _ s => s
  | .raised s => s

/-! ## The fault state -/

/-- `raise Fault(code)` (R124): the fault register, the phase and the halt marker. The register is
"written once" (R22) and "read-only afterwards" (R30), so a second raise keeps the first code: log
entry 5, DEDUCED. -/
def raiseFault (code : FaultCode) (s : State) : State :=
  { s with
    fault := match s.fault with
      | none => some code
      | some c => some c
    phase := .halted
    diag := s.diag ++ [.haltMarker code] }

/-- A raise inside an operation. -/
def raise {α : Type} (code : FaultCode) (s : State) : Res α := .raised (raiseFault code s)

/-! ## Outputs (R23) -/

/-- Append one entry to the wire trace (R136). -/
def emitWire (w : WireEntry) (s : State) : State := { s with wire := s.wire ++ [w] }

/-- `emit Diag(...)` (R13, R135). -/
def emitDiag (d : DiagEvent) (s : State) : State := { s with diag := s.diag ++ [d] }

/-- `emit SerialTx(b)` (R13, R117). -/
def emitSerial (b : Byte) (s : State) : State := { s with serialOut := s.serialOut ++ [b] }

/-- `phase <- P` (R13). -/
def setPhase (ph : Phase) (s : State) : State := { s with phase := ph }

/-! ## Endpoints and their selection -/

/-- The three endpoints the block uses (R26). -/
inductive EpId where
  | ctl
  | bulkIn
  | bulkOut
  deriving DecidableEq, Repr

/-- An endpoint's number: 0, `EP_IN` or `EP_OUT` (R26). -/
def EpId.number (p : Params) : EpId → EpNum
  | .ctl => 0
  | .bulkIn => p.epIn
  | .bulkOut => p.epOut

/-- The endpoint a number names, if any (R26, R37). -/
def endpointOf (p : Params) (n : EpNum) : Option EpId :=
  if n = 0 then some .ctl
  else if n = p.epIn then some .bulkIn
  else if n = p.epOut then some .bulkOut
  else none

/-- `size(n)`: the packet size of an endpoint (R41, R9). -/
def EpId.size : EpId → Nat
  | .ctl => Config.ep0Size
  | .bulkIn => Config.bulkSize
  | .bulkOut => Config.bulkSize

/-- `ep[n]` (R26). -/
def State.ep (s : State) : EpId → Endpoint
  | .ctl => s.ep0
  | .bulkIn => s.epIn
  | .bulkOut => s.epOut

/-- `ep[n] <- x`. -/
def State.setEp (s : State) (e : EpId) (x : Endpoint) : State :=
  match e with
  | .ctl => { s with ep0 := x }
  | .bulkIn => { s with epIn := x }
  | .bulkOut => { s with epOut := x }

/-- `EpSelect(n)` (R37). -/
def epSelect (e : EpId) (s : State) : State := { s with sel := e.number s.params }

/-- The selected endpoint. A number that names none of the three endpoints has no record to read: a
value never written (R31), log entry 15, DESIGN CHOICE; no step selects one. -/
def selected (s : State) : Res EpId :=
  match endpointOf s.params s.sel with
  | some e => .ok e s
  | none => raise .invariantViolation s

/-! ## The window's data primitives -/

/-- `EpAvail()` (R38): the length of the OUT bank, 8 bits. -/
def epAvail (s : State) : Res Byte :=
  (selected s).bind fun e s => .ok (.ofNat 8 (s.ep e).outBuf.length) s

/-- `EpReadByte()` (R39): pops the first byte; reading an empty bank is a fault. -/
def epReadByte (s : State) : Res Byte :=
  (selected s).bind fun e s =>
    match (s.ep e).outBuf with
    | [] => raise .invariantViolation s
    | b :: rest => .ok b (s.setEp e { s.ep e with outBuf := rest })

/-- `EpReadWord16LE()` (R40): the first byte read is the low byte. -/
def epReadWord16LE (s : State) : Res Word :=
  (epReadByte s).bind fun lo s => (epReadByte s).bind fun hi s => .ok (le16 lo hi) s

/-- `EpWriteByte(v)` (R41): appends to the IN bank; a busy or a full bank is a fault. -/
def epWriteByte (v : Byte) (s : State) : Res Unit :=
  (selected s).bind fun e s =>
    if (s.ep e).txrdy = false then raise .invariantViolation s
    else if (s.ep e).inBuf.length = e.size then raise .invariantViolation s
    else .ok () (s.setEp e { s.ep e with inBuf := (s.ep e).inBuf ++ [v] })

/-- `EpWriteWord16LE(v)` (R42). -/
def epWriteWord16LE (v : Word) (s : State) : Res Unit :=
  (epWriteByte (lo8 v) s).bind fun _ s => epWriteByte (hi8 v) s

/-- Writing a byte string, one EpWriteByte a byte. -/
def writeBytes : List Byte → State → Res Unit
  | [], s => .ok () s
  | b :: bs, s => (epWriteByte b s).bind fun _ s => writeBytes bs s

/-- What an endpoint is configured as (R36). -/
inductive EpKind where
  | control
  | bulkIn
  | bulkOut
  deriving DecidableEq, Repr

/-- One draw of the oracle `EP_CONFIG_OK` (R36, U3): the environment's next answer, else the free value.
Log entry 6, DESIGN CHOICE. -/
def drawConfigOk (s : State) : Bool × State :=
  match s.cfgAnswers with
  | b :: rest => (b, { s with cfgAnswers := rest })
  | [] => (Config.epConfigOk s.cfgDraws, { s with cfgDraws := s.cfgDraws + 1 })

/-- A freshly configured endpoint (R36). -/
def Endpoint.configured (kind : EpKind) : Endpoint where
  armed := true
  rxstp := false
  rxout := false
  txrdy := kind ≠ .bulkOut
  stall := false
  outBuf := []
  inBuf := []
  inQ := none

/-- `EpConfigure(n, kind, size) -> ok` (R36); the size has no effect of its own in the contract. `sel` is
not changed. -/
def epConfigure (e : EpId) (kind : EpKind) (_size : Nat) (s : State) : Res Bool :=
  let (ok, s) := drawConfigOk s
  if ok then .ok true (s.setEp e (.configured kind)) else .ok false s

/-- `if not EpConfigure(...) then raise Fault(EndpointConfig)` (R95, R131, R146). -/
def epConfigureOrRaise (e : EpId) (kind : EpKind) (size : Nat) (s : State) : Res Unit :=
  (epConfigure e kind size s).bind fun ok s => if ok then .ok () s else raise .endpointConfig s

/-! ## The descriptor ROM -/

/-- `MemRead(addr, n)` (R52): a read past the end of the ROM is a fault. -/
def memRead (addr n : Nat) (s : State) : Res (List Byte) :=
  if addr + n ≤ (rom s.params).length then .ok (((rom s.params).drop addr).take n) s
  else raise .invariantViolation s

/-- `MemWrite(addr, n, v)` "has no meaning for this block ... and any use of it is refused" (R13). No
instruction uses it. -/
def memWrite (_addr _n : Nat) (_v : List Byte) (_s : State) : Host.Outcome State Fault Refusal :=
  .refused .romWrite

/-! ## Power-on startup, the only way out of the fault state -/

/-- The values of 10_state.md R34. The parameters, `vbus` (R28) and the model's own fields are not the
block's to reset; `sel` is the model's value of reset (log entries 8 and 10). -/
def powerOnValues (s : State) : State :=
  { State.reset with
    params := s.params
    vbus := s.vbus
    sched := s.sched
    cfgAnswers := s.cfgAnswers
    cfgDraws := s.cfgDraws }

/-- Power-on startup (70_reset_and_hazards.md R146), one atomic step. -/
def powerOn (s : State) : State :=
  ((epConfigureOrRaise .ctl .control Config.ep0Size (powerOnValues s)).bind fun _ s =>
    .ok () (setPhase .ctlPoll s)).state

end Sys2Proof.Machine
end

