-- ==== Sys2Proof/Machine/Flags.lean ====
section
/-! DEFINITION. The endpoint flags: every read of them and every operation that sets or clears one
(10_state.md R29, 20_memory.md R43 to R47), and the flags a waiting phase tests (40_control_sequencer.md
R86). The block has no arithmetic flags. -/

namespace Sys2Proof.Machine

/-- What `EpFlags()` returns (R43). -/
structure EpFlags where
  rxstp : Bool
  rxout : Bool
  txrdy : Bool
  deriving DecidableEq, Repr

/-- The flags of one endpoint: "`rxstp` reads false on every endpoint but 0" (R43). -/
def flagsOf (e : EpId) (x : Endpoint) : EpFlags where
  rxstp := match e with
    | .ctl => x.rxstp
    | .bulkIn => false
    | .bulkOut => false
  rxout := x.rxout
  txrdy := x.txrdy

/-- `EpFlags()` (R43). -/
def epFlags (s : State) : Res EpFlags :=
  (selected s).bind fun e s => .ok (flagsOf e (s.ep e)) s

/-- `EpClearSetup()` (R44). -/
def epClearSetup (s : State) : Res Unit :=
  (selected s).bind fun e s => .ok () (s.setEp e { s.ep e with rxstp := false, outBuf := [] })

/-- `EpRelease()` (R45). -/
def epRelease (s : State) : Res Unit :=
  (selected s).bind fun e s => .ok () (s.setEp e { s.ep e with rxout := false, outBuf := [] })

/-- The effect of a commit on an endpoint (R46): clearing a clear flag has no effect. -/
def Endpoint.commit (x : Endpoint) : Endpoint :=
  if x.txrdy then { x with inQ := some x.inBuf, inBuf := [], txrdy := false } else x

/-- `EpCommit()` (R46). -/
def epCommit (s : State) : Res Unit :=
  (selected s).bind fun e s => .ok () (s.setEp e (s.ep e).commit)

/-- `EpStall()` (R47). -/
def epStall (s : State) : Res Unit :=
  (selected s).bind fun e s => .ok () (s.setEp e { s.ep e with stall := true })

/-- Whether the sequencer has an enabled step (R74, R86, R126): not in the fault state, and in a waiting
phase only when one of the flags it tests is set. -/
def sequencerEnabled (s : State) : Bool :=
  s.fault = none &&
    match s.phase with
    | .ctlPoll => true
    | .inData _ _ _ => s.ep0.rxstp || s.ep0.rxout || s.ep0.txrdy
    | .inStatus => s.ep0.rxstp || s.ep0.rxout
    | .addrWait => s.ep0.rxstp || s.ep0.txrdy
    | .bulkOut => true
    | .bulkIn => true
    | .halted => false

end Sys2Proof.Machine
end

