-- ==== Sys2Proof/Machine/Operands.lean ====
section
/-! DEFINITION. The operand forms of the requests (30_encoding.md R66, R67), the effective address
(10_state.md R27) and the control registers as R30 numbers them. -/

namespace Sys2Proof.Machine

/-- GET_DESCRIPTOR: the descriptor type, `hi8(wValue)` (R66). -/
def descType (f : Fields) : Byte := hi8 f.wValue

/-- GET_DESCRIPTOR: the descriptor index, `lo8(wValue)` (R66). -/
def descIndex (f : Fields) : Byte := lo8 f.wValue

/-- SET_ADDRESS: the new address, `wValue[6:0]` (R66). -/
def newAddress (f : Fields) : Addr := f.wValue.extractLsb' 0 7

/-- SET_CONFIGURATION: the configuration value, `lo8(wValue)` (R66). -/
def configValue (f : Fields) : Byte := lo8 f.wValue

/-- Every IN request: `total = min(|resp|, wLength)`, unsigned 16 bits (R67, 40_control_sequencer.md R79). -/
def lengthLimit (resp : List Byte) (wLength : Word) : Word := .ofNat 16 (min resp.length wLength.toNat)

/-- `effAddr = devAddr if addrEn else 0` (10_state.md R27). -/
def State.effAddr (s : State) : Addr := if s.addrEn then s.devAddr else 0

/-- The endpoint a host IN names (60_exceptions.md R129). -/
def inPipeEp : InPipe → EpId
  | .ctl => .ctl
  | .bulk => .bulkIn

/-- The endpoint a host OUT names (R130). -/
def outPipeEp : OutPipe → EpId
  | .ctl => .ctl
  | .bulk => .bulkOut

/-! ## The control registers (R30) -/

/-- The registers CR0 to CR8; "identifiers for a model, not addresses a program can reach" (R30). -/
inductive ControlReg where
  | cr0 | cr1 | cr2 | cr3 | cr4 | cr5 | cr6 | cr7 | cr8
  deriving DecidableEq, Repr

/-- A control register's contents: its valid or enable bit where it has one (true where it has none) and
its value, zero-extended. -/
structure ControlValue where
  valid : Bool
  value : Byte
  deriving DecidableEq, Repr

/-- The code of CR3 (R30). -/
def Conn.code : Conn → Byte
  | .disconnected => 0
  | .enumerated => 1

/-- The code of CR4 (R30). -/
def Pending.code : Pending → Byte
  | .none => 0
  | .echo => 1
  | .banner => 2

/-- The value a code of CR4 stands for; "3 is not a value" (R30, U12). -/
def Pending.ofCode (c : Byte) : Option Pending :=
  if c = 0 then some .none else if c = 1 then some .echo else if c = 2 then some .banner else none

/-- The code of CR6 (60_exceptions.md R121). -/
def FaultCode.code : FaultCode → Byte
  | .invariantViolation => 1
  | .endpointConfig => 2

/-- A register with a valid bit (R30). -/
def optionValue (v : Option Byte) : ControlValue :=
  match v with
  | some b => { valid := true, value := b }
  | none => { valid := false, value := 0 }

/-- The contents of a control register (R30). Log entry 23, DESIGN CHOICE. -/
def State.controlReg (s : State) : ControlReg → ControlValue
  | .cr0 => { valid := true, value := s.cfg.cfgValue }
  | .cr1 => { valid := true, value := s.cfg.curAddr.setWidth 8 }
  | .cr2 => optionValue (s.pendAddr.map (·.setWidth 8))
  | .cr3 => { valid := true, value := s.conn.code }
  | .cr4 => { valid := true, value := s.relay.pending.code }
  | .cr5 => optionValue s.relay.lastIn
  | .cr6 => optionValue (s.fault.map FaultCode.code)
  | .cr7 => { valid := true, value := s.sel.setWidth 8 }
  | .cr8 => { valid := s.addrEn, value := s.devAddr.setWidth 8 }

end Sys2Proof.Machine
end

