-- ==== Sys2Proof/Machine/Capture.lean ====
section
/-! DEFINITION. The capture step's shared operations: what a request handler answers, the path its answer
selects, and the step that serves one captured request (40_control_sequencer.md R76 to R79, R82, R84). -/

namespace Sys2Proof.Machine

/-- The outcome of a dispatch (R77). -/
inductive Reply where
  | ok (resp : List Byte)
  /-- Set Address only -/
  | okAddr
  | fail
  deriving DecidableEq, Repr

/-- A whole step's answer: the state it leaves, in the fault state if it raised (R124). -/
def answer (r : Res Unit) : Host.Outcome State Fault Refusal := .next r.state

/-- `EpSelect(0); EpCommit()`, the zero-length status of a control write (R78, R82). -/
def commitStatus (s : State) : Res Unit := epCommit (epSelect .ctl s)

/-- CONTROL_WRITE completion (R82): the zero-length status, then the bulk relay. -/
def controlWritePath (s : State) : Res Unit :=
  (commitStatus s).bind fun _ s => .ok () (setPhase .bulkOut s)

/-- Set Address's control write (R78): the zero-length status, then the wait for the host to take it. -/
def addressPath (s : State) : Res Unit :=
  (commitStatus s).bind fun _ s => .ok () (setPhase .addrWait s)

/-- STALL (R84): the protocol stall on endpoint 0, then the bulk relay. -/
def stallPath (s : State) : Res Unit :=
  (epStall (epSelect .ctl s)).bind fun _ s => .ok () (setPhase .bulkOut s)

/-- Path selection by the direction bit and the outcome (R78). The cell (direction 1, OkAddr) "cannot
occur"; the model stalls there (log entry 11, DESIGN CHOICE). -/
def controlPath (q : SetupRequest) (r : Reply) (s : State) : Res Unit :=
  match dirOf q.bmRequestType, r with
  | .deviceToHost, .ok resp => .ok () (setPhase (.inData resp (lengthLimit resp q.wLength) 0) s)
  | .deviceToHost, .okAddr => stallPath s
  | .deviceToHost, .fail => stallPath s
  | .hostToDevice, .ok _ => controlWritePath s
  | .hostToDevice, .okAddr => addressPath s
  | .hostToDevice, .fail => stallPath s

/-- The capture step once its request is known (R75, R76): select endpoint 0, record the request, free the
bank, run the handler, take the path. A request row's meaning is this step with the row's handler. -/
def serve (q : SetupRequest) (handler : State → Res Reply) (s : State) : Res Unit :=
  (epClearSetup { epSelect .ctl s with setup := some q }).bind fun _ s =>
    (handler s).bind fun r s => controlPath q r s

end Sys2Proof.Machine
end

