-- ==== Sys2Proof/Machine/Standard.lean ====
section
/-! DEFINITION. The standard requests (41_standard_requests.md R89 to R101): each handler, and each row's
meaning, the capture step with that handler. Every handler ignores the recipient and, unless its rule says
otherwise, wValue and wIndex. -/

namespace Sys2Proof.Machine

/-! ## Handlers -/

/-- R90: two zero bytes, IN only. -/
def handleGetStatus (f : Fields) (s : State) : Res Reply :=
  match f.dir with
  | .deviceToHost => .ok (.ok [0x00, 0x00]) s
  | .hostToDevice => .ok .fail s

/-- R91: a no-op that succeeds. -/
def handleClearFeature (s : State) : Res Reply := .ok (.ok []) s

/-- R92: a no-op that succeeds. -/
def handleSetFeature (s : State) : Res Reply := .ok (.ok []) s

/-- R93: sets the pending address, OUT only. -/
def handleSetAddress (f : Fields) (s : State) : Res Reply :=
  match f.dir with
  | .hostToDevice => .ok .okAddr { s with pendAddr := some (newAddress f) }
  | .deviceToHost => .ok .fail s

/-- R94: the descriptor that (type, index) names, IN only. -/
def handleGetDescriptor (f : Fields) (s : State) : Res Reply :=
  match f.dir with
  | .hostToDevice => .ok .fail s
  | .deviceToHost =>
    match lookup s.params (descType f) (descIndex f) with
    | none => .ok .fail s
    | some (off, len) => (memRead off len s).bind fun bytes s => .ok (.ok bytes) s

/-- R95: stores the value and arms the two bulk endpoints. -/
def handleSetConfiguration (f : Fields) (s : State) : Res Reply :=
  (epConfigureOrRaise .bulkIn .bulkIn Config.bulkSize
    { s with cfg := { s.cfg with cfgValue := configValue f } }).bind fun _ s =>
  (epConfigureOrRaise .bulkOut .bulkOut Config.bulkSize s).bind fun _ s => .ok (.ok []) s

/-- R96: the stored value. -/
def handleGetConfiguration (s : State) : Res Reply := .ok (.ok [s.cfg.cfgValue]) s

/-- R97: unsupported. -/
def handleSetDescriptor (s : State) : Res Reply := .ok .fail s

/-- R98: unsupported. -/
def handleGetInterface (s : State) : Res Reply := .ok .fail s

/-- R99: unsupported. -/
def handleSetInterface (s : State) : Res Reply := .ok .fail s

/-- R100: unsupported. -/
def handleSynchFrame (s : State) : Res Reply := .ok .fail s

/-- R101: every reserved standard code. -/
def handleStdOther (s : State) : Res Reply := .ok .fail s

/-! ## The rows' meanings -/

/-- GET_STATUS (R90). -/
def execGetStatus (f : Fields) (s : State) : Host.Outcome State Fault Refusal :=
  answer (serve (f.request StdCode.getStatus) (handleGetStatus f) s)

/-- CLEAR_FEATURE (R91). -/
def execClearFeature (f : Fields) (s : State) : Host.Outcome State Fault Refusal :=
  answer (serve (f.request StdCode.clearFeature) handleClearFeature s)

/-- SET_FEATURE (R92). -/
def execSetFeature (f : Fields) (s : State) : Host.Outcome State Fault Refusal :=
  answer (serve (f.request StdCode.setFeature) handleSetFeature s)

/-- SET_ADDRESS (R93). -/
def execSetAddress (f : Fields) (s : State) : Host.Outcome State Fault Refusal :=
  answer (serve (f.request StdCode.setAddress) (handleSetAddress f) s)

/-- GET_DESCRIPTOR (R94). -/
def execGetDescriptor (f : Fields) (s : State) : Host.Outcome State Fault Refusal :=
  answer (serve (f.request StdCode.getDescriptor) (handleGetDescriptor f) s)

/-- SET_DESCRIPTOR (R97). -/
def execSetDescriptor (f : Fields) (s : State) : Host.Outcome State Fault Refusal :=
  answer (serve (f.request StdCode.setDescriptor) handleSetDescriptor s)

/-- GET_CONFIGURATION (R96). -/
def execGetConfiguration (f : Fields) (s : State) : Host.Outcome State Fault Refusal :=
  answer (serve (f.request StdCode.getConfiguration) handleGetConfiguration s)

/-- SET_CONFIGURATION (R95). -/
def execSetConfiguration (f : Fields) (s : State) : Host.Outcome State Fault Refusal :=
  answer (serve (f.request StdCode.setConfiguration) (handleSetConfiguration f) s)

/-- GET_INTERFACE (R98). -/
def execGetInterface (f : Fields) (s : State) : Host.Outcome State Fault Refusal :=
  answer (serve (f.request StdCode.getInterface) handleGetInterface s)

/-- SET_INTERFACE (R99). -/
def execSetInterface (f : Fields) (s : State) : Host.Outcome State Fault Refusal :=
  answer (serve (f.request StdCode.setInterface) handleSetInterface s)

/-- SYNCH_FRAME (R100). -/
def execSynchFrame (f : Fields) (s : State) : Host.Outcome State Fault Refusal :=
  answer (serve (f.request StdCode.synchFrame) handleSynchFrame s)

/-- STD_OTHER (R101). -/
def execStdOther (code : Byte) (f : Fields) (s : State) : Host.Outcome State Fault Refusal :=
  answer (serve (f.request code) handleStdOther s)

end Sys2Proof.Machine
end

