-- ==== Sys2Proof/Machine/Vendor.lean ====
section
/-! DEFINITION. The vendor requests (42_vendor_requests.md R102 to R112). The shim "maintains no persistent
state"; no handler reads wValue or wIndex, and only V_OTHER writes state, its diagnostic event. -/

namespace Sys2Proof.Machine

/-! ## Handlers -/

/-- R103: accepted, no effect. -/
def handleVReset (s : State) : Res Reply := .ok (.ok []) s

/-- R104: accepted, no effect. -/
def handleVModemCtrl (s : State) : Res Reply := .ok (.ok []) s

/-- R107: accepted, no effect. -/
def handleVSetFlowCtrl (s : State) : Res Reply := .ok (.ok []) s

/-- R105: accepted, no effect. -/
def handleVSetBaudRate (s : State) : Res Reply := .ok (.ok []) s

/-- R106: accepted, no effect. -/
def handleVSetData (s : State) : Res Reply := .ok (.ok []) s

/-- R108: accepted; the value is not stored. -/
def handleVSetLatencyTimer (s : State) : Res Reply := .ok (.ok []) s

/-- R111: `MODEM_STATUS`. -/
def handleVGetModemStatus (s : State) : Res Reply := .ok (.ok [s.params.modemStatus]) s

/-- R110: `LATENCY_DEFAULT`. -/
def handleVGetLatencyTimer (s : State) : Res Reply := .ok (.ok [s.params.latencyDefault]) s

/-- R109: two bytes of all-ones for every address. -/
def handleVReadEeprom (s : State) : Res Reply := .ok (.ok Config.eepromWord) s

/-- R112: acknowledged, with a diagnostic. -/
def handleVOther (q : SetupRequest) (s : State) : Res Reply :=
  .ok (.ok []) (emitDiag (.unknownVendor q.bmRequestType q.bRequest) s)

/-! ## The rows' meanings -/

/-- V_RESET (R103). -/
def execVReset (f : Fields) (s : State) : Host.Outcome State Fault Refusal :=
  answer (serve (f.request s.params.vendorCodes.reset) handleVReset s)

/-- V_MODEM_CTRL (R104). -/
def execVModemCtrl (f : Fields) (s : State) : Host.Outcome State Fault Refusal :=
  answer (serve (f.request s.params.vendorCodes.modemCtrl) handleVModemCtrl s)

/-- V_SET_FLOW_CTRL (R107). -/
def execVSetFlowCtrl (f : Fields) (s : State) : Host.Outcome State Fault Refusal :=
  answer (serve (f.request s.params.vendorCodes.setFlowCtrl) handleVSetFlowCtrl s)

/-- V_SET_BAUD_RATE (R105). -/
def execVSetBaudRate (f : Fields) (s : State) : Host.Outcome State Fault Refusal :=
  answer (serve (f.request s.params.vendorCodes.setBaudRate) handleVSetBaudRate s)

/-- V_SET_DATA (R106). -/
def execVSetData (f : Fields) (s : State) : Host.Outcome State Fault Refusal :=
  answer (serve (f.request s.params.vendorCodes.setData) handleVSetData s)

/-- V_SET_LATENCY_TIMER (R108). -/
def execVSetLatencyTimer (f : Fields) (s : State) : Host.Outcome State Fault Refusal :=
  answer (serve (f.request s.params.vendorCodes.setLatencyTimer) handleVSetLatencyTimer s)

/-- V_GET_MODEM_STATUS (R111). -/
def execVGetModemStatus (f : Fields) (s : State) : Host.Outcome State Fault Refusal :=
  answer (serve (f.request s.params.vendorCodes.getModemStatus) handleVGetModemStatus s)

/-- V_GET_LATENCY_TIMER (R110). -/
def execVGetLatencyTimer (f : Fields) (s : State) : Host.Outcome State Fault Refusal :=
  answer (serve (f.request s.params.vendorCodes.getLatencyTimer) handleVGetLatencyTimer s)

/-- V_READ_EEPROM (R109). -/
def execVReadEeprom (f : Fields) (s : State) : Host.Outcome State Fault Refusal :=
  answer (serve (f.request s.params.vendorCodes.readEeprom) handleVReadEeprom s)

/-- V_OTHER (R112). -/
def execVOther (code : Byte) (f : Fields) (s : State) : Host.Outcome State Fault Refusal :=
  answer (serve (f.request code) (handleVOther (f.request code)) s)

end Sys2Proof.Machine
end

