-- ==== Sys2Proof/Machine/Control.lean ====
section
/-! DEFINITION. The control-transfer sequencer (40_control_sequencer.md R75 to R87): the unrouted types, the
poll and the capture, the IN data stage, the status stages and the stall. -/

namespace Sys2Proof.Machine

/-! ## Unrouted types (R85) -/

/-- R85: no handler runs. -/
def handleClassType (s : State) : Res Reply := .ok .fail s

/-- R85: no handler runs. -/
def handleReservedType (s : State) : Res Reply := .ok .fail s

/-- CLASS_TYPE (R85). -/
def execClassType (code : Byte) (f : Fields) (s : State) : Host.Outcome State Fault Refusal :=
  answer (serve (f.request code) handleClassType s)

/-- RESERVED_TYPE (R85). -/
def execReservedType (code : Byte) (f : Fields) (s : State) : Host.Outcome State Fault Refusal :=
  answer (serve (f.request code) handleReservedType s)

/-! ## Poll and capture (R75 to R77) -/

/-- `Dispatch(s)` (R77, R89, R102): the handler of the row that the request selects. The rows that are no
requests are never selected (`requestRow`). -/
def dispatch (q : SetupRequest) (s : State) : Res Reply :=
  match decodeRequest s.params q with
  | .getStatus f => handleGetStatus f s
  | .clearFeature _ => handleClearFeature s
  | .setFeature _ => handleSetFeature s
  | .setAddress f => handleSetAddress f s
  | .getDescriptor f => handleGetDescriptor f s
  | .setDescriptor _ => handleSetDescriptor s
  | .getConfiguration _ => handleGetConfiguration s
  | .setConfiguration f => handleSetConfiguration f s
  | .getInterface _ => handleGetInterface s
  | .setInterface _ => handleSetInterface s
  | .synchFrame _ => handleSynchFrame s
  | .stdOther _ _ => handleStdOther s
  | .vReset _ => handleVReset s
  | .vModemCtrl _ => handleVModemCtrl s
  | .vSetFlowCtrl _ => handleVSetFlowCtrl s
  | .vSetBaudRate _ => handleVSetBaudRate s
  | .vSetData _ => handleVSetData s
  | .vSetLatencyTimer _ => handleVSetLatencyTimer s
  | .vGetModemStatus _ => handleVGetModemStatus s
  | .vGetLatencyTimer _ => handleVGetLatencyTimer s
  | .vReadEeprom _ => handleVReadEeprom s
  | .vOther _ _ => handleVOther q s
  | .classType _ _ => handleClassType s
  | .reservedType _ _ => handleReservedType s
  | .bulkTrigger | .bulkEcho _ | .ctlPoll | .setupCapture | .inData _ _ _ | .inStatus | .controlWrite
  | .addrWait | .stall | .bulkOut | .serialForward _ | .bulkIn | .hostSetup _ _ | .hostIn _ _
  | .hostOut _ _ _ | .busReset | .vbusOn | .vbusOff | .serialRx _ => .ok .fail s

/-- The eight bytes read through the window, in the order of 30_encoding.md R60. -/
def readRequest (s : State) : Res SetupRequest :=
  (epReadByte s).bind fun bm s =>
  (epReadByte s).bind fun rq s =>
  (epReadWord16LE s).bind fun wv s =>
  (epReadWord16LE s).bind fun wi s =>
  (epReadWord16LE s).bind fun wl s =>
    .ok { bmRequestType := bm, bRequest := rq, wValue := wv, wIndex := wi, wLength := wl } s

/-- SETUP_CAPTURE's step (R76), with endpoint 0 selected. -/
def captureStep (s : State) : Res Unit :=
  (epAvail (epSelect .ctl s)).bind fun k s =>
    if k ≠ 8 then raise .invariantViolation s
    else (readRequest s).bind fun q s => serve q (dispatch q) s

/-- SETUP_CAPTURE (R76). -/
def execSetupCapture (s : State) : Host.Outcome State Fault Refusal := answer (captureStep s)

/-- CTL_POLL (R75): the capture in this same step when a SETUP is in the bank, else the bulk relay. -/
def execCtlPoll (s : State) : Host.Outcome State Fault Refusal :=
  answer ((epFlags (epSelect .ctl s)).bind fun f s =>
    if f.rxstp then captureStep s else .ok () (setPhase .bulkOut s))

/-! ## The IN data stage (R80) -/

/-- `for i in 0 .. n-1: EpWriteByte(src[start + i])`; an index past the response is a value never written
(R31, log entry 14, DEDUCED). -/
def writeSlice (src : List Byte) (start : Nat) : Nat → State → Res Unit
  | 0, s => .ok () s
  | n + 1, s =>
    match src[start]? with
    | none => raise .invariantViolation s
    | some b => (epWriteByte b s).bind fun _ s => writeSlice src (start + 1) n s

/-- `n = min(total - sent, EP0_SIZE)` (R80); "`total - sent` is never negative" (R88). -/
def chunkSize (total sent : Word) : Nat := min (total.toNat - sent.toNat) Config.ep0Size

/-- The phase after a chunk of n bytes (R80): another packet follows, a zero-length one after a last chunk
of exactly `EP0_SIZE` bytes. -/
def afterChunk (src : List Byte) (total sent : Word) (n : Nat) : Phase :=
  if sent.toNat + n < total.toNat ∨ n = Config.ep0Size then .inData src total (.ofNat 16 (sent.toNat + n))
  else .inStatus

/-- IN_DATA (R80): abort on a new SETUP, early end on an OUT, else one packet when the bank is free; a hold
while no flag is set (R86) changes nothing. -/
def execInData (src : List Byte) (total sent : Word) (s : State) : Host.Outcome State Fault Refusal :=
  answer ((epFlags (epSelect .ctl s)).bind fun f s' =>
    if f.rxstp then .ok () (setPhase .bulkOut s')
    else if f.rxout then .ok () (setPhase .inStatus s')
    else if f.txrdy then
      (writeSlice src sent.toNat (chunkSize total sent) s').bind fun _ s' =>
      (epCommit s').bind fun _ s' =>
        .ok () (setPhase (afterChunk src total sent (chunkSize total sent)) s')
    else .ok () s)

/-! ## The status stages (R81 to R83) and the stall (R84) -/

/-- IN_STATUS (R81): abort on a new SETUP, completion on the host's OUT, else a hold (R86). -/
def execInStatus (s : State) : Host.Outcome State Fault Refusal :=
  answer ((epFlags (epSelect .ctl s)).bind fun f s' =>
    if f.rxstp then .ok () (setPhase .bulkOut s')
    else if f.rxout then
      (epRelease s').bind fun _ s' => (epCommit s').bind fun _ s' => .ok () (setPhase .bulkOut s')
    else .ok () s)

/-- CONTROL_WRITE (R82). -/
def execControlWrite (s : State) : Host.Outcome State Fault Refusal := answer (controlWritePath s)

/-- The address latch (R83). -/
def latchAddress (s : State) : State :=
  match s.pendAddr with
  | some a => { s with cfg := { s.cfg with curAddr := a }, devAddr := a, addrEn := true }
  | none => s

/-- ADDR_WAIT (R83): abort on a new SETUP with nothing latched, the latch once the host has taken the
zero-length status, else a hold (R86). -/
def execAddrWait (s : State) : Host.Outcome State Fault Refusal :=
  answer ((epFlags (epSelect .ctl s)).bind fun f s' =>
    if f.rxstp then .ok () (setPhase .bulkOut s')
    else if f.txrdy then .ok () (setPhase .bulkOut (latchAddress s'))
    else .ok () s)

/-- STALL (R84). -/
def execStall (s : State) : Host.Outcome State Fault Refusal := answer (stallPath s)

end Sys2Proof.Machine
end

