-- ==== Sys2Proof/Machine/Relay.lean ====
section
/-! DEFINITION. The bulk data relay (43_bulk_relay.md R113 to R120): the inbound check with its byte classes
and the outbound check. -/

namespace Sys2Proof.Machine

/-- `relay.pending <- Banner` (R115). -/
def relayTrigger (s : State) : State := { s with relay := { s.relay with pending := .banner } }

/-- `relay.pending <- Echo`; "the echoed byte is `relay.lastIn` = b", which R114 writes before (R116). -/
def relayEcho (s : State) : State := { s with relay := { s.relay with pending := .echo } }

/-- SERIAL_FORWARD(b) (R117). -/
def relayForward (b : Byte) (s : State) : State :=
  match s.params.serialTxOnOut with
  | .forward => emitSerial b s
  | .none => s

/-- `relay.lastIn <- b` (R114). -/
def relayLast (b : Byte) (s : State) : State := { s with relay := { s.relay with lastIn := some b } }

/-- BULK_TRIGGER (R115). -/
def execBulkTrigger (s : State) : Host.Outcome State Fault Refusal := .next (relayTrigger s)

/-- BULK_ECHO (R116): "State written: `relay.pending`"; the byte itself is in `lastIn` (log entry 18, DEDUCED). -/
def execBulkEcho (_b : Byte) (s : State) : Host.Outcome State Fault Refusal := .next (relayEcho s)

/-- SERIAL_FORWARD (R117). -/
def execSerialForward (b : Byte) (s : State) : Host.Outcome State Fault Refusal := .next (relayForward b s)

/-- The class of one inbound byte (30_encoding.md R69): the single slot is overwritten whatever it held
(R119). -/
def classify (b : Byte) (s : State) : State := if b = Config.trigger then relayTrigger s else relayEcho s

/-- What R114 does with one byte it has read. -/
def relayByte (b : Byte) (s : State) : State := relayForward b (classify b (relayLast b s))

/-- `repeat k times` of R114. -/
def relayBytes : Nat → State → Res Unit
  | 0, s => .ok () s
  | k + 1, s => (epReadByte s).bind fun b s => relayBytes k (relayByte b s)

/-- BULK_OUT (R114), the inbound check. -/
def execBulkOut (s : State) : Host.Outcome State Fault Refusal :=
  answer ((epFlags (epSelect .bulkOut s)).bind fun f s =>
    (if f.rxout then
      (epAvail s).bind fun k s =>
        if Config.bulkSize < k.toNat then raise .invariantViolation s
        else (relayBytes k.toNat s).bind fun _ s => epRelease s
    else .ok () s).bind fun _ s => .ok () (setPhase .bulkIn s))

/-- The payload of a pending item (30_encoding.md R70): an echo of a byte never received would be a value
never written (R31), log entry 19, DEDUCED. -/
def writePayload (s : State) : Res Unit :=
  match s.relay.pending with
  | .banner => writeBytes s.params.banner s
  | .echo | .none =>
    match s.relay.lastIn with
    | some b => epWriteByte b s
    | none => raise .invariantViolation s

/-- BULK_IN (R118), the outbound check: one packet of the two status bytes and the payload. -/
def execBulkIn (s : State) : Host.Outcome State Fault Refusal :=
  answer ((epFlags (epSelect .bulkIn s)).bind fun f s =>
    (if s.relay.pending ≠ .none ∧ f.txrdy then
      (epWriteByte Config.status0 s).bind fun _ s =>
      (epWriteByte Config.status1 s).bind fun _ s =>
      (writePayload s).bind fun _ s =>
      (epCommit s).bind fun _ s => .ok () { s with relay := { s.relay with pending := .none } }
    else .ok () s).bind fun _ s => .ok () (setPhase .ctlPoll s))

end Sys2Proof.Machine
end

