-- ==== Sys2Proof/Machine/Events.lean ====
section
/-! DEFINITION. The steps of the environment's agents (60_exceptions.md R127 to R137). Host steps are enabled
only while `vbus` is true (10_state.md R28); a step that is not enabled changes nothing (log entry 3, DESIGN CHOICE). No
event changes `sel`, and none changes `phase` but by a raise (R139). -/

namespace Sys2Proof.Machine

/-- Endpoint 0 after a SETUP packet has arrived (R128). -/
def Endpoint.setupArrived (x : Endpoint) (p : List Byte) : Endpoint :=
  { x with
    outBuf := p
    rxstp := true
    rxout := false
    stall := false
    inBuf := []
    inQ := none
    txrdy := true }

/-- HOST_SETUP (R128): always accepted at the device's address. -/
def execHostSetup (a : Addr) (p : Vector Byte 8) (s : State) : Host.Outcome State Fault Refusal :=
  .next <|
    if s.vbus = false then s
    else if a ≠ s.effAddr ∨ s.ep0.armed = false then emitWire (.timeout a 0) s
    else emitWire (.setupAck p.toList) { s with ep0 := s.ep0.setupArrived p.toList }

/-- A host IN to one endpoint, while enabled (R129). -/
def hostInAt (a : Addr) (e : EpId) (s : State) : State :=
  if a ≠ s.effAddr ∨ (s.ep e).armed = false then emitWire (.timeout a (e.number s.params)) s
  else if (s.ep e).stall then emitWire (.stall (e.number s.params)) s
  else
    match (s.ep e).inQ with
    | some q =>
      (emitWire (.inData (e.number s.params) q) s).setEp e { s.ep e with inQ := none, txrdy := true }
    | none => emitWire (.nak (e.number s.params)) s

/-- HOST_IN (R129). -/
def execHostIn (a : Addr) (e : InPipe) (s : State) : Host.Outcome State Fault Refusal :=
  .next (if s.vbus = false then s else hostInAt a (inPipeEp e) s)

/-- A host OUT to one endpoint, while enabled (R130): refused with NAK while the bank is full, and on
endpoint 0 while an uncaptured SETUP is in it. -/
def hostOutAt (a : Addr) (e : EpId) (p : List Byte) (s : State) : State :=
  if a ≠ s.effAddr ∨ (s.ep e).armed = false then emitWire (.timeout a (e.number s.params)) s
  else if (s.ep e).stall then emitWire (.stall (e.number s.params)) s
  else if (s.ep e).rxout ∨ (e = .ctl ∧ s.ep0.rxstp) then emitWire (.nak (e.number s.params)) s
  else
    (emitWire (.outAck (e.number s.params) p.length) s).setEp e { s.ep e with outBuf := p, rxout := true }

/-- HOST_OUT (R130). -/
def execHostOut (a : Addr) (e : OutPipe) (p : List Byte) (s : State) : Host.Outcome State Fault Refusal :=
  .next (if s.vbus = false then s else hostOutAt a (outPipeEp e) p s)

/-- The effects of end-of-reset before endpoint 0 is configured again (R131). -/
def endOfReset (s : State) : State :=
  { s with
    devAddr := 0
    addrEn := false
    epIn := .disarmed
    epOut := .disarmed
    cfg := { cfgValue := 0, curAddr := 0 }
    pendAddr := none }

/-- BUSRESET (R131): a refused configuration of endpoint 0 raises, and the raise ends the step before the
wire entry (R124). -/
def execBusReset (s : State) : Host.Outcome State Fault Refusal :=
  answer (if s.vbus = false then .ok () s
    else (epConfigureOrRaise .ctl .control Config.ep0Size (endOfReset s)).bind fun _ s =>
      .ok () (emitWire .busReset s))

/-- VBUS_ON (R132). -/
def execVbusOn (s : State) : Host.Outcome State Fault Refusal :=
  .next <|
    match s.conn with
    | .disconnected => emitDiag .connected { s with vbus := true, conn := .enumerated }
    | .enumerated => { s with vbus := true }

/-- VBUS_OFF (R133). -/
def execVbusOff (s : State) : Host.Outcome State Fault Refusal :=
  .next <|
    match s.conn with
    | .enumerated => emitDiag .disconnected { s with vbus := false, conn := .disconnected }
    | .disconnected => { s with vbus := false }

/-- SERIALRX (R134). -/
def execSerialRx (b : Byte) (s : State) : Host.Outcome State Fault Refusal :=
  .next <|
    match s.params.serialRxMode with
    | .classify => classify b (relayLast b s)
    | .ignored => s

end Sys2Proof.Machine
end

