-- ==== Sys2Proof/Machine/Dispatch.lean ====
section
/-! DEFINITION. One arm per instruction: which meaning it has. -/

namespace Sys2Proof.Machine

def exec (i : Instr) (s : State) : Host.Outcome State Fault Refusal :=
  match i with
  | .getStatus f => Sys2Proof.Machine.execGetStatus f s
  | .clearFeature f => Sys2Proof.Machine.execClearFeature f s
  | .setFeature f => Sys2Proof.Machine.execSetFeature f s
  | .setAddress f => Sys2Proof.Machine.execSetAddress f s
  | .getDescriptor f => Sys2Proof.Machine.execGetDescriptor f s
  | .setDescriptor f => Sys2Proof.Machine.execSetDescriptor f s
  | .getConfiguration f => Sys2Proof.Machine.execGetConfiguration f s
  | .setConfiguration f => Sys2Proof.Machine.execSetConfiguration f s
  | .getInterface f => Sys2Proof.Machine.execGetInterface f s
  | .setInterface f => Sys2Proof.Machine.execSetInterface f s
  | .synchFrame f => Sys2Proof.Machine.execSynchFrame f s
  | .stdOther code f => Sys2Proof.Machine.execStdOther code f s
  | .vReset f => Sys2Proof.Machine.execVReset f s
  | .vModemCtrl f => Sys2Proof.Machine.execVModemCtrl f s
  | .vSetFlowCtrl f => Sys2Proof.Machine.execVSetFlowCtrl f s
  | .vSetBaudRate f => Sys2Proof.Machine.execVSetBaudRate f s
  | .vSetData f => Sys2Proof.Machine.execVSetData f s
  | .vSetLatencyTimer f => Sys2Proof.Machine.execVSetLatencyTimer f s
  | .vGetModemStatus f => Sys2Proof.Machine.execVGetModemStatus f s
  | .vGetLatencyTimer f => Sys2Proof.Machine.execVGetLatencyTimer f s
  | .vReadEeprom f => Sys2Proof.Machine.execVReadEeprom f s
  | .vOther code f => Sys2Proof.Machine.execVOther code f s
  | .classType code f => Sys2Proof.Machine.execClassType code f s
  | .reservedType code f => Sys2Proof.Machine.execReservedType code f s
  | .bulkTrigger => Sys2Proof.Machine.execBulkTrigger s
  | .bulkEcho b => Sys2Proof.Machine.execBulkEcho b s
  | .ctlPoll => Sys2Proof.Machine.execCtlPoll s
  | .setupCapture => Sys2Proof.Machine.execSetupCapture s
  | .inData src total sent => Sys2Proof.Machine.execInData src total sent s
  | .inStatus => Sys2Proof.Machine.execInStatus s
  | .controlWrite => Sys2Proof.Machine.execControlWrite s
  | .addrWait => Sys2Proof.Machine.execAddrWait s
  | .stall => Sys2Proof.Machine.execStall s
  | .bulkOut => Sys2Proof.Machine.execBulkOut s
  | .serialForward b => Sys2Proof.Machine.execSerialForward b s
  | .bulkIn => Sys2Proof.Machine.execBulkIn s
  | .hostSetup a p => Sys2Proof.Machine.execHostSetup a p s
  | .hostIn a e => Sys2Proof.Machine.execHostIn a e s
  | .hostOut a e p => Sys2Proof.Machine.execHostOut a e p s
  | .busReset => Sys2Proof.Machine.execBusReset s
  | .vbusOn => Sys2Proof.Machine.execVbusOn s
  | .vbusOff => Sys2Proof.Machine.execVbusOff s
  | .serialRx b => Sys2Proof.Machine.execSerialRx b s

end Sys2Proof.Machine
end

