-- ==== Sys2Proof/Machine/Fetch.lean ====
section
/-! DEFINITION. Which instruction comes next: the schedule's choice (00_scope.md R7), the sequencer's
instruction at its phase (10_state.md R16), and the instruction word put where it is fetched. -/

namespace Sys2Proof.Machine

/-- The schedule's next choice and the state without it; with none left, the sequencer's turn (log
entry 2, DESIGN CHOICE). -/
def nextTurn (s : State) : Turn × State :=
  match s.sched with
  | [] => (.sequencer, s)
  | t :: rest => (t, { s with sched := rest })

/-- The instruction at the sequencer's phase (R16); none in the fault state (60_exceptions.md R126). At
`CtlPoll` with a SETUP in the bank it is the request that the bank's bytes decode to, which the capture of
40_control_sequencer.md R75 and R76 serves in this same step. -/
def fetch (s : State) : Option Instr :=
  if s.fault.isSome then none
  else
    match s.phase with
    | .ctlPoll =>
      if s.ep0.rxstp then
        match decodeSetup s.params s.ep0.outBuf with
        | .ok i => some i
        | .error _ => some .ctlPoll
      else some .ctlPoll
    | .inData src total sent => some (.inData src total sent)
    | .inStatus => some .inStatus
    | .addrWait => some .addrWait
    | .bulkOut => some .bulkOut
    | .bulkIn => some .bulkIn
    | .halted => none

/-- A table word of nbits bits put where the next step fetches it: up to 8 bits, a one-byte packet in the
bulk OUT bank at `BulkOut`; else a SETUP packet in endpoint 0's bank at `CtlPoll`. Log entry 13, DESIGN CHOICE. -/
def loadWord (s : State) (nbits w : Nat) : State :=
  if nbits ≤ 8 then
    { s with
      fault := none
      sched := []
      phase := .bulkOut
      epOut := { s.epOut with rxout := true, outBuf := [.ofNat 8 w] } }
  else
    { s with
      fault := none
      sched := []
      phase := .ctlPoll
      ep0 := { s.ep0 with rxstp := true, outBuf := tableBytes w } }

end Sys2Proof.Machine
end

