-- ==== Sys2Proof/Machine/Step.lean ====
section
/-! DEFINITION. One step of the machine: the agent that the schedule chooses takes one atomic step
(00_scope.md R7, R8). -/

namespace Sys2Proof.Machine

/-- The sequencer's turn: the instruction at its phase, or the fault outcome of 60_exceptions.md R126 when
it stands in the fault state (log entry 4, DEDUCED). -/
def sequencerTurn (s : State) : Host.Outcome State Fault Refusal :=
  match fetch s with
  | some i => exec i s
  | none => .fault (.halted s.fault)

/-- An event's turn: a step of the environment, if its operands are ones its rule admits (R130). -/
def eventTurn (e : Event) (s : State) : Host.Outcome State Fault Refusal :=
  if wellFormed s.params e.instr then exec e.instr s else .refused .illFormedEvent

/-- The step chosen by one turn. -/
def takeTurn (t : Turn) (s : State) : Host.Outcome State Fault Refusal :=
  match t with
  | .sequencer => sequencerTurn s
  | .event e => eventTurn e s
  | .powerOn => .next (powerOn s)

/-- One step. A parameter record that breaks R10 has no meaning. -/
def step (s : State) : Host.Outcome State Fault Refusal :=
  if s.params.wf then takeTurn (nextTurn s).1 (nextTurn s).2 else .refused .illFormedParams

/-- The state with a table word where the next step fetches its instruction (log entry 13, DESIGN CHOICE). -/
def State.withFetchWord (s : State) (nbits w : Nat) : State := loadWord s nbits w

end Sys2Proof.Machine
end

