-- ==== Sys2Proof/Machine/Script.lean ====
section
/-! DEFINITION. The script notation for host programs (30_encoding.md R72, R73), run on the machine: each line
is one event given the turn, or SYNC. No instruction and no step depends on this file. -/

namespace Sys2Proof.Machine

/-- One line of a script (R72); `setup` carries the request code, a mnemonic of R64 or R65 or a byte. -/
inductive Line where
  | setup (f : Fields) (code : Byte)
  | inn (e : InPipe)
  | out (e : OutPipe) (p : List Byte)
  | target (a : Addr)
  | busReset
  | vbus (on : Bool)
  | serialRx (b : Byte)
  | sync
  deriving DecidableEq, Repr

/-- A script under way: the address its lines use ("initially 0") and the machine. -/
structure Session where
  target : Addr
  machine : State
  deriving DecidableEq, Repr

/-- The eight bytes a SETUP line encodes as (R60, R72). -/
def setupPacket (f : Fields) (code : Byte) : Vector Byte 8 :=
  #v[f.bmRequestType, code, lo8 f.wValue, hi8 f.wValue, lo8 f.wIndex, hi8 f.wIndex, lo8 f.wLength, hi8 f.wLength]

/-- The start of a program on a machine: the target is "initially 0" (R72), and `answers` are the EP_CONFIG_OK
answers that the program itself says, none unless it "says otherwise". -/
def Session.start (answers : List Bool) (s : State) : Session where
  target := 0
  machine := { s with cfgAnswers := answers }

/-- The most EP_CONFIG_OK draws one step takes: two, in SET_CONFIGURATION (41_standard_requests.md R95). -/
def drawsPerStep : Nat := 2

/-- "Every `EP_CONFIG_OK` draw inside a program answers true unless the program says otherwise" (R72): behind the
answers the program says, one true for every draw the step can take. -/
def grantDraws (s : State) : State := { s with cfgAnswers := s.cfgAnswers ++ List.replicate drawsPerStep true }

/-- What the program said and the step did not use: the rest without the granted answers. -/
def withdrawDraws (s : State) : State :=
  { s with cfgAnswers := s.cfgAnswers.take (s.cfgAnswers.length - drawsPerStep) }

/-- The machine's next step inside a program, with the turn given to t (R72). -/
def stepAs (t : Turn) (s : State) : Host.Outcome State Fault Refusal :=
  match step (grantDraws { s with sched := [t] }) with
  | .next u => .next (withdrawDraws u)
  | .fault r => .fault r
  | .refused r => .refused r

/-- SYNC (R72): sequencer steps until none is enabled, or until the sequencer stands at `CtlPoll` after a
full pass that changed no state but `phase` and `sel`; `mark` is the state at the last `CtlPoll`. The fuel
bounds the steps (log entry 21, DESIGN CHOICE). -/
def sync : Nat → Option State → State → Host.Outcome State Fault Refusal
  | 0, _, s => .next s
  | n + 1, mark, s =>
    if sequencerEnabled s = false then .next s
    else if s.phase = .ctlPoll ∧ mark = some { s with sel := 0, phase := .ctlPoll } then .next s
    else
      match stepAs .sequencer s with
      | .next t => sync n (if s.phase = .ctlPoll then some { s with sel := 0, phase := .ctlPoll } else mark) t
      | .fault r => .fault r
      | .refused r => .refused r

/-- Run one line (R72). -/
def runLine (fuel : Nat) (l : Line) (h : Session) : Host.Outcome Session Fault Refusal :=
  let lift (o : Host.Outcome State Fault Refusal) : Host.Outcome Session Fault Refusal :=
    match o with
    | .next s => .next { h with machine := s }
    | .fault r => .fault r
    | .refused r => .refused r
  match l with
  | .setup f code => lift (stepAs (.event (.hostSetup h.target (setupPacket f code))) h.machine)
  | .inn e => lift (stepAs (.event (.hostIn h.target e)) h.machine)
  | .out e p => lift (stepAs (.event (.hostOut h.target e p)) h.machine)
  | .target a => .next { h with target := a }
  | .busReset => lift (stepAs (.event .busReset) h.machine)
  | .vbus true => lift (stepAs (.event .vbusOn) h.machine)
  | .vbus false => lift (stepAs (.event .vbusOff) h.machine)
  | .serialRx b => lift (stepAs (.event (.serialRx b)) h.machine)
  | .sync => lift (sync fuel none h.machine)

/-- Run a script. -/
def runLines (fuel : Nat) : List Line → Session → Host.Outcome Session Fault Refusal
  | [], h => .next h
  | l :: ls, h =>
    match runLine fuel l h with
    | .next h => runLines fuel ls h
    | .fault r => .fault r
    | .refused r => .refused r

/-- Run a program from its start (R72). -/
def runProgram (fuel : Nat) (ls : List Line) (answers : List Bool) (s : State) :
    Host.Outcome Session Fault Refusal :=
  runLines fuel ls (.start answers s)

/-! ## Pseudo-instructions (R73) -/

/-- The `IN 0; SYNC` loop of `CTRL_READ`: again while the IN returned a full packet, then the status stage;
a STALL ends the expansion. -/
def readLoop (fuel : Nat) : Nat → Session → Host.Outcome Session Fault Refusal
  | 0, h => .next h
  | n + 1, h =>
    match runLine fuel (.inn .ctl) h with
    | .next h' =>
      match runLine fuel .sync h', h'.machine.wire.getLast? with
      | .next h'', some (.stall _) => .next h''
      | .next h'', some (.inData _ q) =>
        if q.length = Config.ep0Size then readLoop fuel n h''
        else runLines fuel [.out .ctl [], .sync] h''
      | .next h'', _ => runLines fuel [.out .ctl [], .sync] h''
      | o, _ => o
    | o => o

/-- `CTRL_READ` (R73). -/
def ctrlRead (fuel : Nat) (f : Fields) (code : Byte) (h : Session) :
    Host.Outcome Session Fault Refusal :=
  match runLines fuel [.setup { f with dir := .deviceToHost } code, .sync] h with
  | .next h => readLoop fuel fuel h
  | o => o

/-- `CTRL_WRITE` (R73). -/
def ctrlWrite (f : Fields) (code : Byte) : List Line :=
  [.setup { f with dir := .hostToDevice } code, .sync, .inn .ctl, .sync]

/-- Fields of a request of a type to recipient DEV (R72). -/
def requestFields (dir : Dir) (typ : ReqType) (wValue wIndex wLength : Word) : Fields where
  dir := dir
  typ := typ
  recipient := 0
  wValue := wValue
  wIndex := wIndex
  wLength := wLength

/-- `GET_DESCRIPTOR t i n` (R73). -/
def scriptGetDescriptor (fuel : Nat) (t i : Byte) (n : Word) (h : Session) :
    Host.Outcome Session Fault Refusal :=
  ctrlRead fuel (requestFields .deviceToHost .standard (le16 i t) 0 n) StdCode.getDescriptor h

/-- `GET_STATUS` (R73). -/
def scriptGetStatus (fuel : Nat) (h : Session) : Host.Outcome Session Fault Refusal :=
  ctrlRead fuel (requestFields .deviceToHost .standard 0 0 2) StdCode.getStatus h

/-- `GET_CONFIGURATION` (R73). -/
def scriptGetConfiguration (fuel : Nat) (h : Session) : Host.Outcome Session Fault Refusal :=
  ctrlRead fuel (requestFields .deviceToHost .standard 0 0 1) StdCode.getConfiguration h

/-- `SET_CONFIGURATION v` (R73). -/
def scriptSetConfiguration (v : Word) : List Line :=
  ctrlWrite (requestFields .hostToDevice .standard v 0 0) StdCode.setConfiguration

/-- `SET_ADDRESS a` (R73). -/
def scriptSetAddress (a : Addr) : List Line :=
  ctrlWrite (requestFields .hostToDevice .standard (a.setWidth 16) 0 0) StdCode.setAddress ++ [.target a]

/-- `VREAD req v i n` (R73). -/
def scriptVendorRead (fuel : Nat) (code : Byte) (v i n : Word) (h : Session) :
    Host.Outcome Session Fault Refusal :=
  ctrlRead fuel (requestFields .deviceToHost .vendor v i n) code h

/-- `VWRITE req v i` (R73). -/
def scriptVendorWrite (code : Byte) (v i : Word) : List Line :=
  ctrlWrite (requestFields .hostToDevice .vendor v i 0) code

/-- `BULK_SEND b…` (R73). -/
def scriptBulkSend (p : List Byte) : List Line := [.out .bulk p, .sync]

/-- `BULK_RECV` (R73). -/
def scriptBulkReceive : List Line := [.inn .bulk, .sync]

end Sys2Proof.Machine
end

