-- ==== Sys2Proof/Safety.lean ====
section
/-! DEFINITION. What counts as a safe run: the fault state is never entered (60_exceptions.md R126), and the
invariant under which the fault `InvariantViolation` is unreachable (93_implementation_defined.md U2, U4). -/

namespace Sys2Proof.Safety

open Sys2Proof.Machine

/-- A run that has not met the fault state: "a run that reaches the fault state is not a finished run" (R126). -/
def running (s : State) : Prop := s.fault = none ∧ s.phase ≠ .halted

/-- The first k steps keep running: no fault outcome, no refusal, and no state in the fault state. -/
def SafeFor (k : Nat) (s : State) : Prop :=
  ∀ j, j ≤ k → ∃ t, Host.Core.run core j s = .next t ∧ running t

/-- An IN bank between two steps (20_memory.md R46): ready exactly when nothing is committed, within the
packet size, and with nothing half written. -/
structure InBankOk (x : Endpoint) : Prop where
  ready_iff : x.armed = true → (x.txrdy = true ↔ x.inQ = none)
  queued_size : ∀ q, x.inQ = some q → q.length ≤ 64
  clean : x.inBuf = []

/-- Endpoint 0 between two steps: it stays armed, a SETUP bank holds eight bytes (40_control_sequencer.md
R76), and SETUP and OUT are never both there (60_exceptions.md R130). -/
structure CtlOk (s : State) : Prop where
  armed : s.ep0.armed = true
  inBank : InBankOk s.ep0
  setup_bytes : s.ep0.rxstp = true → s.ep0.outBuf.length = 8
  bank_size : s.ep0.outBuf.length ≤ 64
  not_both : s.ep0.rxstp = true → s.ep0.rxout = false

/-- The bulk endpoints between two steps (10_state.md R26, 20_memory.md R36): one that is not armed has
nothing set. -/
structure BulkOk (s : State) : Prop where
  in_idle : s.epIn.armed = false → s.epIn = .disarmed
  inBank : InBankOk s.epIn
  out_idle : s.epOut.armed = false → s.epOut = .disarmed
  bank_size : s.epOut.outBuf.length ≤ 64

/-- The progress of an IN data stage (40_control_sequencer.md R88). -/
def ProgressOk (s : State) : Prop :=
  ∀ src total sent, s.phase = .inData src total sent →
    sent.toNat ≤ total.toNat ∧ total.toNat ≤ src.length ∧ src.length ≤ 255

/-- The invariant of the machine's states: the fault register and the phase agree (10_state.md R22), an
invariant violation has not happened, a pending echo has its byte (R21), and the endpoints and the IN data
stage are as above. -/
structure Inv (s : State) : Prop where
  fault_iff_halted : s.fault ≠ none ↔ s.phase = .halted
  no_violation : s.fault ≠ some .invariantViolation
  echo_has_byte : s.relay.pending = .echo → s.relay.lastIn ≠ none
  ctl : CtlOk s
  bulk : BulkOk s
  progress : ProgressOk s

end Sys2Proof.Safety
end

