-- ==== Sys2Proof/Certificates/Slice0/Obligations.lean ====
section
/-! DEFINITION. The statements for the provers, each a rule of spec/ or what follows from rules, in terms of
exec, step and the shared operations. The helpers in `Claims` restate the rules' effects as record updates. -/

namespace Sys2Proof.Claims

open Sys2Proof.Machine

/-- The state after the capture's own writes (R76): endpoint 0 selected, the request recorded, the SETUP
acknowledged and the bank freed. -/
def captured (q : SetupRequest) (s : State) : State :=
  { s with sel := 0, setup := some q, ep0 := { s.ep0 with rxstp := false, outBuf := [] } }

/-- An endpoint after EpCommit (R46). -/
def committed (x : Endpoint) : Endpoint :=
  if x.txrdy = true then { x with inQ := some x.inBuf, inBuf := [], txrdy := false } else x

/-- A control read's successful path (R78, R79). -/
def streaming (resp : List Byte) (q : SetupRequest) (t : State) : State :=
  { t with phase := .inData resp (BitVec.ofNat 16 (min resp.length q.wLength.toNat)) 0 }

/-- A control write's successful path (R78, R82): the zero-length status, then the given phase. -/
def statusSent (ph : Phase) (t : State) : State := { t with ep0 := committed t.ep0, phase := ph }

/-- The stall (R84). -/
def stalled (t : State) : State := { t with ep0 := { t.ep0 with stall := true }, phase := .bulkOut }

/-- What `Ok(resp)` leads to, by the request's direction (R78). -/
def succeeded (f : Fields) (resp : List Byte) (q : SetupRequest) (t : State) : State :=
  match f.dir with
  | .deviceToHost => streaming resp q t
  | .hostToDevice => statusSent .bulkOut t

/-- What `raise Fault(code)` leads to (R124; the register is written once, R22). -/
def faulted (c : FaultCode) (t : State) : State :=
  { t with
    fault := if t.fault = none then some c else t.fault
    phase := .halted
    diag := t.diag ++ [.haltMarker c] }

/-- An endpoint that EpConfigure has armed (R36). -/
def armedEndpoint (ready : Bool) : Endpoint where
  armed := true
  rxstp := false
  rxout := false
  txrdy := ready
  stall := false
  outBuf := []
  inBuf := []
  inQ := none

/-- The descriptor a (type, index) pair names (R56), as bytes. -/
def served (p : Params) (type index : Byte) : Option (List Byte) :=
  if type = 1 ∧ index = 0 then some (deviceDescriptor p)
  else if type = 2 ∧ index = 0 then some (configurationBlock p)
  else if type = 3 ∧ index = 0 then some (languageString p)
  else if type = 3 ∧ index = 1 then some (stringDescriptor p.strProduct)
  else if type = 3 ∧ index = 2 then some (stringDescriptor p.strSerial)
  else none

/-- The schedule gives the sequencer the turn, and s' is the state it acts on. -/
def sequencerChosen (s s' : State) : Prop :=
  (s.sched = [] ∧ s' = s) ∨ ∃ rest, s.sched = .sequencer :: rest ∧ s' = { s with sched := rest }

/-- m rounds of one sequencer turn and one host IN on endpoint 0. -/
def readRounds (a : Addr) : Nat → List Turn
  | 0 => []
  | m + 1 => .sequencer :: .event (.hostIn a .ctl) :: readRounds a m

/-- The same instruction with another recipient, where it is a request. -/
def withRecipient (r : BitVec 5) : Instr → Instr
  | .getStatus f => .getStatus { f with recipient := r }
  | .clearFeature f => .clearFeature { f with recipient := r }
  | .setFeature f => .setFeature { f with recipient := r }
  | .setAddress f => .setAddress { f with recipient := r }
  | .getDescriptor f => .getDescriptor { f with recipient := r }
  | .setDescriptor f => .setDescriptor { f with recipient := r }
  | .getConfiguration f => .getConfiguration { f with recipient := r }
  | .setConfiguration f => .setConfiguration { f with recipient := r }
  | .getInterface f => .getInterface { f with recipient := r }
  | .setInterface f => .setInterface { f with recipient := r }
  | .synchFrame f => .synchFrame { f with recipient := r }
  | .stdOther c f => .stdOther c { f with recipient := r }
  | .vReset f => .vReset { f with recipient := r }
  | .vModemCtrl f => .vModemCtrl { f with recipient := r }
  | .vSetFlowCtrl f => .vSetFlowCtrl { f with recipient := r }
  | .vSetBaudRate f => .vSetBaudRate { f with recipient := r }
  | .vSetData f => .vSetData { f with recipient := r }
  | .vSetLatencyTimer f => .vSetLatencyTimer { f with recipient := r }
  | .vGetModemStatus f => .vGetModemStatus { f with recipient := r }
  | .vGetLatencyTimer f => .vGetLatencyTimer { f with recipient := r }
  | .vReadEeprom f => .vReadEeprom { f with recipient := r }
  | .vOther c f => .vOther c { f with recipient := r }
  | .classType c f => .classType c { f with recipient := r }
  | .reservedType c f => .reservedType c { f with recipient := r }
  | .bulkTrigger => .bulkTrigger
  | .bulkEcho b => .bulkEcho b
  | .ctlPoll => .ctlPoll
  | .setupCapture => .setupCapture
  | .inData x y z => .inData x y z
  | .inStatus => .inStatus
  | .controlWrite => .controlWrite
  | .addrWait => .addrWait
  | .stall => .stall
  | .bulkOut => .bulkOut
  | .serialForward b => .serialForward b
  | .bulkIn => .bulkIn
  | .hostSetup a p => .hostSetup a p
  | .hostIn a e => .hostIn a e
  | .hostOut a e p => .hostOut a e p
  | .busReset => .busReset
  | .vbusOn => .vbusOn
  | .vbusOff => .vbusOff
  | .serialRx b => .serialRx b

end Sys2Proof.Claims

open Sys2Proof Sys2Proof.Machine Sys2Proof.Claims Sys2Proof.Safety

/-! ## Encoding -/

/-- R60 to R65, R69: under every well-formed parameter record, decoding the encoding of a well-formed
instruction gives it back, for every row that has an encoding and every value of its operands. -/
def Obligations.EncodedInstructionDecodesToItself : Prop :=
  ∀ (p : Params) (i : Instr) (bytes : List Byte), p.wf = true → wellFormed p i = true →
    encode p i = some bytes → decode p bytes = .ok i

/-- R60 to R65: any eight bytes decode to one well-formed row, whose encoding they are; bytes of any other
number are no SETUP packet. -/
def Obligations.EveryEightBytesAreOneRequest : Prop :=
  ∀ (p : Params) (bytes : List Byte), p.wf = true →
    (bytes.length = 8 → ∃ i, decodeSetup p bytes = .ok i ∧ wellFormed p i = true ∧ encode p i = some bytes) ∧
    (bytes.length ≠ 8 → decodeSetup p bytes = .error .notEightBytes)

/-- R62, R63: the row the match and mask table selects for the key K is the row the decoder gives. -/
def Obligations.TableSelectsTheDecodedRow : Prop :=
  ∀ (p : Params) (q : SetupRequest), tableLookup p q.key = some (decodeRequest p q).mnemonic

/-- Words of 95_test_vectors.md 2.1 decode to the instructions they stand for (R60, R61, R64, R65, R69). -/
def Obligations.WrittenWordsDecode : Prop :=
  decodeSetup .p0 [0x80, 0x06, 0x00, 0x01, 0x00, 0x00, 0x12, 0x00]
      = .ok (.getDescriptor ⟨.deviceToHost, .standard, 0, 0x0100, 0x0000, 0x0012⟩) ∧
  decodeSetup .p0 [0x00, 0x05, 0x85, 0x00, 0x00, 0x00, 0x00, 0x00]
      = .ok (.setAddress ⟨.hostToDevice, .standard, 0, 0x0085, 0x0000, 0x0000⟩) ∧
  decodeSetup .p0 [0xC0, 0x00, 0x00, 0x00, 0x00, 0x00, 0x01, 0x00]
      = .ok (.vOther 0x00 ⟨.deviceToHost, .vendor, 0, 0x0000, 0x0000, 0x0001⟩) ∧
  decodeSetup .p0 [0x41, 0x03, 0x01, 0x00, 0x01, 0x00, 0x00, 0x00]
      = .ok (.vSetBaudRate ⟨.hostToDevice, .vendor, 1, 0x0001, 0x0001, 0x0000⟩) ∧
  decodeSetup .p0 [0xA1, 0x01, 0x00, 0x00, 0x00, 0x00, 0x07, 0x00]
      = .ok (.classType 0x01 ⟨.deviceToHost, .cls, 1, 0x0000, 0x0000, 0x0007⟩) ∧
  decodeSetup { Params.p0 with typeRouting := .bit6 } [0xE0, 0x90, 0x00, 0x00, 0x00, 0x00, 0x02, 0x00]
      = .ok (.vReadEeprom ⟨.deviceToHost, .reserved, 0, 0x0000, 0x0000, 0x0002⟩) ∧
  decodeBulkByte 0x61 = .bulkTrigger ∧ decodeBulkByte 0xE1 = .bulkEcho 0xE1

/-! ## Reset and startup -/

/-- R34: the values after power-on startup, and the control registers' reset column of R30, in the model's view of
the registers (true for a register without a valid bit, 0 where the valid bit is false: log entry 23). That the
startup was answered ok is the model's choice (log entry 27). The spec leaves `sel` and `vbus` open: nothing is
said of them here. -/
def Obligations.ResetHoldsTheTableValues : Prop :=
  let s := State.reset
  s.phase = .ctlPoll ∧ s.setup = none ∧ s.cfg = { cfgValue := 0, curAddr := 0 } ∧ s.pendAddr = none ∧
  s.conn = .disconnected ∧ s.relay = { pending := .none, lastIn := none } ∧ s.fault = none ∧
  s.wire = [] ∧ s.diag = [] ∧ s.serialOut = [] ∧
  s.ep0 = armedEndpoint true ∧
  s.epIn = { armedEndpoint false with armed := false } ∧ s.epOut = { armedEndpoint false with armed := false } ∧
  s.devAddr = 0 ∧ s.addrEn = false ∧
  s.controlReg .cr0 = ⟨true, 0⟩ ∧ s.controlReg .cr1 = ⟨true, 0⟩ ∧ s.controlReg .cr2 = ⟨false, 0⟩ ∧
  s.controlReg .cr3 = ⟨true, 0⟩ ∧ s.controlReg .cr4 = ⟨true, 0⟩ ∧ s.controlReg .cr5 = ⟨false, 0⟩ ∧
  s.controlReg .cr6 = ⟨false, 0⟩ ∧ s.controlReg .cr8 = ⟨false, 0⟩

/-- R146: power-on startup from any state, the fault state included, leaves the values of R34 when the
endpoint hardware takes endpoint 0's configuration, and the fault state EndpointConfig with its marker
when it refuses; whatever answers. The turn and the fields it keeps are the model's (log entries 2, 6 and 10),
and so is the value 0 of `sel`, which R34 leaves unspecified (log entry 8). -/
def Obligations.PowerOnStartsTheMachine : Prop :=
  ∀ (s : State) (rest : List Turn), s.params.wf = true → s.sched = .powerOn :: rest →
    let d := drawConfigOk { s with sched := rest }
    let fresh : State :=
      { State.reset with
        params := s.params, vbus := s.vbus, sched := rest, cfgAnswers := d.2.cfgAnswers, cfgDraws := d.2.cfgDraws }
    step s = .next (if d.1 then fresh else faulted .endpointConfig fresh)

/-! ## The endpoint window -/

/-- R39, R40: a read pops the first byte of the selected bank, an empty bank raises InvariantViolation (a code
already held stays: log entry 5), and the first byte of a word is its low byte. -/
def Obligations.BankReadsPopBytes : Prop :=
  ∀ (s : State) (e : EpId), endpointOf s.params s.sel = some e →
    ((s.ep e).outBuf = [] → epReadByte s = .raised (faulted .invariantViolation s)) ∧
    (∀ b rest, (s.ep e).outBuf = b :: rest →
      epReadByte s = .ok b (s.setEp e { s.ep e with outBuf := rest })) ∧
    (∀ lo hi rest, (s.ep e).outBuf = lo :: hi :: rest →
      ∃ w : Word, w.toNat = 256 * hi.toNat + lo.toNat ∧
        epReadWord16LE s = .ok w (s.setEp e { s.ep e with outBuf := rest }))

/-- R41, R42: a write appends to the selected IN bank; a busy bank and a full bank raise InvariantViolation (a
code already held stays: log entry 5); a word's low byte goes first, and stays written when the bank is full
before the high one. That the bulk OUT endpoint's IN bank, too, has 64 bytes is the model's choice (log entry
15). -/
def Obligations.BankWritesAppendBytes : Prop :=
  ∀ (s : State) (e : EpId) (v : Byte) (w : Word), endpointOf s.params s.sel = some e →
    ((s.ep e).txrdy = false ∨ (s.ep e).inBuf.length = 64 →
      epWriteByte v s = .raised (faulted .invariantViolation s) ∧
      epWriteWord16LE w s = .raised (faulted .invariantViolation s)) ∧
    ((s.ep e).txrdy = true → (s.ep e).inBuf.length ≠ 64 →
      epWriteByte v s = .ok () (s.setEp e { s.ep e with inBuf := (s.ep e).inBuf ++ [v] })) ∧
    ((s.ep e).txrdy = true → (s.ep e).inBuf.length = 63 →
      epWriteWord16LE w s = .raised (faulted .invariantViolation
        (s.setEp e { s.ep e with inBuf := (s.ep e).inBuf ++ [BitVec.ofNat 8 w.toNat] }))) ∧
    ((s.ep e).txrdy = true → (s.ep e).inBuf.length ≠ 63 → (s.ep e).inBuf.length ≠ 64 →
      epWriteWord16LE w s = .ok ()
        (s.setEp e { s.ep e with
          inBuf := (s.ep e).inBuf ++ [BitVec.ofNat 8 w.toNat, BitVec.ofNat 8 (w.toNat / 256)] }))

/-- R37, R38, R43 to R47: selection, the count of the OUT bank, the flags read (`rxstp` only on endpoint 0)
and the four flag operations, on the selected endpoint. That the count of a bank of more than 255 bytes is its
length modulo 256 is the model's reading of R38's 8 bits (log entry 14). -/
def Obligations.FlagPrimitivesActOnTheSelection : Prop :=
  ∀ (s : State) (e : EpId), endpointOf s.params s.sel = some e →
    (∀ d : EpId, epSelect d s = { s with sel := d.number s.params }) ∧
    epAvail s = .ok (BitVec.ofNat 8 (s.ep e).outBuf.length) s ∧
    epFlags s = .ok ⟨decide (e = .ctl) && (s.ep e).rxstp, (s.ep e).rxout, (s.ep e).txrdy⟩ s ∧
    epClearSetup s = .ok () (s.setEp e { s.ep e with rxstp := false, outBuf := [] }) ∧
    epRelease s = .ok () (s.setEp e { s.ep e with rxout := false, outBuf := [] }) ∧
    epCommit s = .ok () (s.setEp e (committed (s.ep e))) ∧
    epStall s = .ok () (s.setEp e { s.ep e with stall := true })

/-- R36: EpConfigure arms the endpoint when the hardware answers ok, with `txrdy` set unless it is a bulk OUT
endpoint, and leaves every endpoint as it was when it does not; `sel` is not changed, whatever answers (who
answers is the model's form of R36's oracle: log entry 6). -/
def Obligations.ConfigureArmsTheEndpoint : Prop :=
  ∀ (s : State) (e : EpId) (k : EpKind) (n : Nat),
    ∃ t : State,
      t = { s with cfgAnswers := t.cfgAnswers, cfgDraws := t.cfgDraws } ∧
      (epConfigure e k n s = .ok true (t.setEp e (armedEndpoint (decide (k ≠ .bulkOut)))) ∨
        epConfigure e k n s = .ok false t) ∧
      (∀ b rest, s.cfgAnswers = b :: rest →
        t = { s with cfgAnswers := rest } ∧
        epConfigure e k n s
          = if b then .ok true (t.setEp e (armedEndpoint (decide (k ≠ .bulkOut)))) else .ok false t)

/-! ## The descriptor ROM -/

/-- R51, R52, R56: every descriptor that lookup finds lies inside the ROM, is what MemRead returns, carries
its type in byte 1, and begins with its own length, or, for the configuration block, has that length in its
total-length field. -/
def Obligations.DescriptorsDescribeThemselves : Prop :=
  ∀ (s : State) (type index : Byte) (off len : Nat), s.params.wf = true →
    lookup s.params type index = some (off, len) →
    off + len ≤ (rom s.params).length ∧ 2 ≤ len ∧ len ≤ 255 ∧
    (∃ bytes, served s.params type index = some bytes ∧ memRead off len s = .ok bytes s ∧ bytes.length = len) ∧
    romByte s.params (off + 1) = some type ∧
    (type ≠ 2 → romByte s.params off = some (BitVec.ofNat 8 len)) ∧
    (type = 2 → romByte s.params (off + 2) = some (BitVec.ofNat 8 len) ∧ romByte s.params (off + 3) = some 0)

/-- R53, R54, R55: the bytes of the ROM under P0. -/
def Obligations.RomUnderP0 : Prop :=
  rom .p0 =
    [0x12, 0x01, 0x10, 0x01, 0x00, 0x00, 0x00, 0x40, 0x03, 0x04, 0x01, 0x60, 0x00, 0x06, 0x00, 0x01, 0x02, 0x01] ++
    [0x09, 0x02, 0x20, 0x00, 0x01, 0x01, 0x00, 0x80, 0x32, 0x09, 0x04, 0x00, 0x00, 0x02, 0xFF, 0xFF, 0xFF, 0x00,
      0x07, 0x05, 0x81, 0x02, 0x40, 0x00, 0x00, 0x07, 0x05, 0x02, 0x02, 0x40, 0x00, 0x00] ++
    [0x04, 0x03, 0x09, 0x04] ++
    [0x20, 0x03, 0x46, 0x00, 0x54, 0x00, 0x32, 0x00, 0x33, 0x00, 0x32, 0x00, 0x52, 0x00, 0x20, 0x00, 0x55, 0x00,
      0x53, 0x00, 0x42, 0x00, 0x20, 0x00, 0x55, 0x00, 0x41, 0x00, 0x52, 0x00, 0x54, 0x00] ++
    [0x12, 0x03, 0x30, 0x00, 0x30, 0x00, 0x30, 0x00, 0x30, 0x00, 0x30, 0x00, 0x30, 0x00, 0x30, 0x00, 0x31, 0x00]

/-- R59: no step of any agent changes what a read of the ROM returns. -/
def Obligations.RomNeverChanges : Prop :=
  ∀ (s t : State), step s = .next t → ∀ addr, romByte t.params addr = romByte s.params addr

/-! ## Standard requests: each result is the whole next state, so it is the frame too -/

/-- R90: GET_STATUS answers two zero bytes, and stalls on direction 0. -/
def Obligations.GetStatusResult : Prop :=
  ∀ (f : Fields) (s : State),
    exec (.getStatus f) s = .next
      (match f.dir with
        | .deviceToHost => streaming [0x00, 0x00] (f.request 0x00) (captured (f.request 0x00) s)
        | .hostToDevice => stalled (captured (f.request 0x00) s))

/-- R91, R92: CLEAR_FEATURE and SET_FEATURE succeed on both directions and do nothing. -/
def Obligations.FeatureRequestsSucceed : Prop :=
  ∀ (f : Fields) (s : State),
    exec (.clearFeature f) s = .next (succeeded f [] (f.request 0x01) (captured (f.request 0x01) s)) ∧
    exec (.setFeature f) s = .next (succeeded f [] (f.request 0x03) (captured (f.request 0x03) s))

/-- R93: SET_ADDRESS records `wValue[6:0]` as the pending address and sends the zero-length status, with the
effective address as it was; direction 1 stalls. -/
def Obligations.SetAddressResult : Prop :=
  ∀ (f : Fields) (s : State),
    exec (.setAddress f) s = .next
      (match f.dir with
        | .hostToDevice =>
          statusSent .addrWait
            { captured (f.request 0x05) s with pendAddr := some (BitVec.ofNat 7 (f.wValue.toNat % 128)) }
        | .deviceToHost => stalled (captured (f.request 0x05) s))

/-- R94: GET_DESCRIPTOR streams the descriptor that (type, index) names, at most wLength bytes of it; an
unknown pair and direction 0 stall. -/
def Obligations.GetDescriptorResult : Prop :=
  ∀ (f : Fields) (s : State), s.params.wf = true →
    exec (.getDescriptor f) s = .next
      (match f.dir, served s.params (BitVec.ofNat 8 (f.wValue.toNat / 256)) (BitVec.ofNat 8 f.wValue.toNat) with
        | .deviceToHost, some bytes => streaming bytes (f.request 0x06) (captured (f.request 0x06) s)
        | .deviceToHost, none => stalled (captured (f.request 0x06) s)
        | .hostToDevice, _ => stalled (captured (f.request 0x06) s))

/-- R95: SET_CONFIGURATION stores the low byte of wValue and arms both bulk endpoints, in that order; a
refused configuration raises EndpointConfig with what was written before it kept (a code already held stays:
log entry 5); whatever answers (log entry 6). -/
def Obligations.SetConfigurationResult : Prop :=
  ∀ (f : Fields) (s : State),
    let q := f.request 0x09
    let s1 : State :=
      { captured q s with cfg := { cfgValue := BitVec.ofNat 8 f.wValue.toNat, curAddr := s.cfg.curAddr } }
    let d1 := drawConfigOk s1
    let d2 := drawConfigOk { d1.2 with epIn := armedEndpoint true }
    exec (.setConfiguration f) s = .next
      (if d1.1 = false then faulted .endpointConfig d1.2
       else if d2.1 = false then faulted .endpointConfig d2.2
       else succeeded f [] q { d2.2 with epOut := armedEndpoint false })

/-- R96: GET_CONFIGURATION answers the stored value; on direction 0 the answer is not sent. -/
def Obligations.GetConfigurationResult : Prop :=
  ∀ (f : Fields) (s : State),
    exec (.getConfiguration f) s
      = .next (succeeded f [s.cfg.cfgValue] (f.request 0x08) (captured (f.request 0x08) s))

/-- R97 to R101: SET_DESCRIPTOR, GET_INTERFACE, SET_INTERFACE, SYNCH_FRAME and every other standard code
stall on both directions. -/
def Obligations.UnsupportedStandardRequestsStall : Prop :=
  ∀ (code : Byte) (f : Fields) (s : State),
    exec (.setDescriptor f) s = .next (stalled (captured (f.request 0x07) s)) ∧
    exec (.getInterface f) s = .next (stalled (captured (f.request 0x0A) s)) ∧
    exec (.setInterface f) s = .next (stalled (captured (f.request 0x0B) s)) ∧
    exec (.synchFrame f) s = .next (stalled (captured (f.request 0x0C) s)) ∧
    exec (.stdOther code f) s = .next (stalled (captured (f.request code) s))

/-- R85: a request of an unrouted type stalls and no handler runs. -/
def Obligations.UnroutedTypesStall : Prop :=
  ∀ (code : Byte) (f : Fields) (s : State),
    exec (.classType code f) s = .next (stalled (captured (f.request code) s)) ∧
    exec (.reservedType code f) s = .next (stalled (captured (f.request code) s))

/-! ## Vendor requests -/

/-- R103 to R108: the six vendor commands are acknowledged and write no state. -/
def Obligations.VendorCommandsAreAcknowledged : Prop :=
  ∀ (f : Fields) (s : State),
    let c := s.params.vendorCodes
    exec (.vReset f) s = .next (succeeded f [] (f.request c.reset) (captured (f.request c.reset) s)) ∧
    exec (.vModemCtrl f) s = .next (succeeded f [] (f.request c.modemCtrl) (captured (f.request c.modemCtrl) s)) ∧
    exec (.vSetBaudRate f) s
      = .next (succeeded f [] (f.request c.setBaudRate) (captured (f.request c.setBaudRate) s)) ∧
    exec (.vSetData f) s = .next (succeeded f [] (f.request c.setData) (captured (f.request c.setData) s)) ∧
    exec (.vSetFlowCtrl f) s
      = .next (succeeded f [] (f.request c.setFlowCtrl) (captured (f.request c.setFlowCtrl) s)) ∧
    exec (.vSetLatencyTimer f) s
      = .next (succeeded f [] (f.request c.setLatencyTimer) (captured (f.request c.setLatencyTimer) s))

/-- R109 to R111: the three vendor reads answer fixed bytes. -/
def Obligations.VendorReadsAnswerFixedBytes : Prop :=
  ∀ (f : Fields) (s : State),
    let c := s.params.vendorCodes
    exec (.vReadEeprom f) s
      = .next (succeeded f [0xFF, 0xFF] (f.request c.readEeprom) (captured (f.request c.readEeprom) s)) ∧
    exec (.vGetLatencyTimer f) s
      = .next (succeeded f [s.params.latencyDefault] (f.request c.getLatencyTimer)
          (captured (f.request c.getLatencyTimer) s)) ∧
    exec (.vGetModemStatus f) s
      = .next (succeeded f [s.params.modemStatus] (f.request c.getModemStatus)
          (captured (f.request c.getModemStatus) s))

/-- R112: every other vendor request is acknowledged, with its diagnostic event. -/
def Obligations.OtherVendorRequestsAreLogged : Prop :=
  ∀ (code : Byte) (f : Fields) (s : State),
    exec (.vOther code f) s
      = .next (succeeded f [] (f.request code)
          { captured (f.request code) s with diag := s.diag ++ [.unknownVendor f.bmRequestType code] })

/-! ## The control-transfer sequencer -/

/-- R75: the poll with no SETUP in the bank goes on to the bulk relay and changes nothing else. -/
def Obligations.PollWithoutSetupGoesToTheRelay : Prop :=
  ∀ s : State, s.ep0.rxstp = false → exec .ctlPoll s = .next { s with sel := 0, phase := .bulkOut }

/-- R76, R77: the capture reads the eight bytes into the setup register and runs the row they decode to, the
poll with a SETUP in the bank does the same (log entry 12), and a bank whose count is not eight raises (log
entry 5). -/
def Obligations.CaptureRunsTheDecodedRow : Prop :=
  ∀ s : State,
    (∀ q, requestOfBytes s.ep0.outBuf = .ok q →
      ∃ t, exec .setupCapture s = .next t ∧ exec (decodeRequest s.params q) s = .next t ∧ t.setup = some q ∧
        (s.ep0.rxstp = true → exec .ctlPoll s = .next t)) ∧
    (s.ep0.outBuf.length ≠ 8 → s.ep0.outBuf.length ≤ 255 →
      exec .setupCapture s = .next (faulted .invariantViolation { s with sel := 0 }))

/-- A step runs the decoded request: at CtlPoll with a SETUP in the bank whose bytes decode to i, the
sequencer's step is exec of i on the state without the turn it took, and i is well formed (the schedule is the
model's: log entry 2; that the row is the whole capture step: log entry 12). -/
def Obligations.StepRunsTheDecodedRequest : Prop :=
  ∀ (s s' : State) (i : Instr), s.params.wf = true → s.fault = none → s.phase = .ctlPoll →
    s.ep0.rxstp = true → decodeSetup s.params s.ep0.outBuf = .ok i → sequencerChosen s s' →
    wellFormed s.params i = true ∧ step s = exec i s'

/-- A step runs the instruction at the phase (R74, R16): the sequencer's turn in every other phase (the
schedule is the model's: log entry 2). -/
def Obligations.StepRunsTheInstructionAtThePhase : Prop :=
  ∀ (s s' : State), s.params.wf = true → s.fault = none → sequencerChosen s s' →
    (s.phase = .ctlPoll → s.ep0.rxstp = false → step s = exec .ctlPoll s') ∧
    (∀ src total sent, s.phase = .inData src total sent → step s = exec (.inData src total sent) s') ∧
    (s.phase = .inStatus → step s = exec .inStatus s') ∧
    (s.phase = .addrWait → step s = exec .addrWait s') ∧
    (s.phase = .bulkOut → step s = exec .bulkOut s') ∧
    (s.phase = .bulkIn → step s = exec .bulkIn s')

/-- A step runs the event the schedule chooses, in any phase and in the fault state too (R7, R126, R138); an
event outside its rule's domain is refused (R130, log entry 17; the schedule: log entry 2). -/
def Obligations.StepRunsTheChosenEvent : Prop :=
  ∀ (s : State) (e : Event) (rest : List Turn), s.params.wf = true → s.sched = .event e :: rest →
    (wellFormed s.params e.instr = true → step s = exec e.instr { s with sched := rest }) ∧
    (wellFormed s.params e.instr = false → step s = .refused .illFormedEvent)

/-- R10: a parameter record that fails a check is refused, whatever else the state holds. -/
def Obligations.IllFormedParametersAreRefused : Prop :=
  ∀ s : State,
    (s.params.epIn = s.params.epOut ∨ s.params.epIn = 0 ∨ s.params.epOut = 0 ∨ 62 < s.params.banner.length ∨
      255 < 2 + 2 * s.params.strProduct.length ∨ 255 < 2 + 2 * s.params.strSerial.length ∨
      ¬ (s.params.vendorCodes.known .hostToDevice).Nodup ∨ ¬ (s.params.vendorCodes.known .deviceToHost).Nodup) →
    step s = .refused .illFormedParams

/-- R80: abort on a new SETUP, early end on an OUT, one packet of at most 64 bytes when the bank is free, and
a hold that changes nothing (log entry 3). The bank is clean between steps (Safety.Inv). -/
def Obligations.InDataSendsTheNextPacket : Prop :=
  ∀ (src : List Byte) (total sent : Word) (s : State),
    (s.ep0.rxstp = true → exec (.inData src total sent) s = .next { s with sel := 0, phase := .bulkOut }) ∧
    (s.ep0.rxstp = false → s.ep0.rxout = true →
      exec (.inData src total sent) s = .next { s with sel := 0, phase := .inStatus }) ∧
    (s.ep0.rxstp = false → s.ep0.rxout = false → s.ep0.txrdy = true → s.ep0.inBuf = [] →
      sent.toNat ≤ total.toNat → total.toNat ≤ src.length →
      let n := min (total.toNat - sent.toNat) 64
      exec (.inData src total sent) s = .next
        { s with
          sel := 0
          ep0 := { s.ep0 with inQ := some ((src.drop sent.toNat).take n), txrdy := false }
          phase := if sent.toNat + n < total.toNat ∨ n = 64
            then .inData src total (BitVec.ofNat 16 (sent.toNat + n)) else .inStatus }) ∧
    (s.ep0.rxstp = false → s.ep0.rxout = false → s.ep0.txrdy = false → exec (.inData src total sent) s = .next s)

/-- R81: abort on a new SETUP; the host's OUT completes the transfer, its bytes discarded and the IN bank
committed; else a hold that changes nothing (log entry 3). -/
def Obligations.InStatusResult : Prop :=
  ∀ s : State,
    exec .inStatus s = .next
      (if s.ep0.rxstp = true then { s with sel := 0, phase := .bulkOut }
       else if s.ep0.rxout = true then
         { s with sel := 0, ep0 := committed { s.ep0 with rxout := false, outBuf := [] }, phase := .bulkOut }
       else s)

/-- R82, R84: the two ends of the capture step: the zero-length status of a control write, and the stall,
which leaves the IN bank alone. -/
def Obligations.WriteCompletionAndStall : Prop :=
  ∀ s : State,
    exec .controlWrite s = .next { s with sel := 0, ep0 := committed s.ep0, phase := .bulkOut } ∧
    exec .stall s = .next { s with sel := 0, ep0 := { s.ep0 with stall := true }, phase := .bulkOut }

/-- R83: abort on a new SETUP with nothing latched; once the bank is free the pending address, if there still
is one, is latched in both registers and stays pending; else a hold that changes nothing (log entry 3). -/
def Obligations.AddrWaitResult : Prop :=
  ∀ s : State,
    exec .addrWait s = .next
      (if s.ep0.rxstp = true then { s with sel := 0, phase := .bulkOut }
       else if s.ep0.txrdy = true then
         match s.pendAddr with
         | some a =>
           { s with
             sel := 0
             cfg := { cfgValue := s.cfg.cfgValue, curAddr := a }
             devAddr := a
             addrEn := true
             phase := .bulkOut }
         | none => { s with sel := 0, phase := .bulkOut }
       else s)

/-- R86, R149, R150: while none of the flags its phase tests is set, a held sequencer never moves, however
many turns it has (that a turn given to it changes nothing is the model's choice: log entry 3). -/
def Obligations.HeldSequencerNeverMoves : Prop :=
  ∀ (k : Nat) (s : State), s.params.wf = true → s.fault = none → s.sched = [] →
    s.ep0.rxstp = false →
    ((∃ src total sent, s.phase = .inData src total sent) ∧ s.ep0.rxout = false ∧ s.ep0.txrdy = false ∨
      s.phase = .inStatus ∧ s.ep0.rxout = false ∨
      s.phase = .addrWait ∧ s.ep0.txrdy = false) →
    Host.Core.run Sys2Proof.core k s = .next s

/-- R79, R80: a host that takes every packet receives, in packets of at most 64 bytes, exactly the first
`total` bytes of the response; every packet but the last is full, and the last is not (the schedule is the
model's: log entry 2). -/
def Obligations.ControlReadDeliversTheResponse : Prop :=
  ∀ (s : State) (src : List Byte) (total : Word) (rest : List Turn), s.params.wf = true → s.fault = none →
    s.phase = .inData src total 0 → total.toNat ≤ src.length →
    s.ep0.armed = true → s.ep0.rxstp = false → s.ep0.rxout = false → s.ep0.stall = false →
    s.ep0.txrdy = true → s.ep0.inBuf = [] → s.vbus = true →
    s.sched = readRounds s.effAddr (total.toNat / 64 + 1) ++ rest →
    ∃ (t : State) (packets : List (List Byte)),
      Host.Core.run Sys2Proof.core (2 * (total.toNat / 64 + 1)) s = .next t ∧
      t.phase = .inStatus ∧ t.sched = rest ∧
      t.wire = s.wire ++ packets.map (WireEntry.inData 0) ∧
      packets.flatten = src.take total.toNat ∧
      packets.length = total.toNat / 64 + 1 ∧
      (∀ q ∈ packets.dropLast, q.length = 64) ∧
      (∀ q, packets.getLast? = some q → q.length < 64)

/-- R93, R83, R152: after a SET_ADDRESS is captured the effective address is the old one, and still after the
host has taken the zero-length status; the sequencer's next step latches the new one (the schedule is the
model's: log entry 2). -/
def Obligations.AddressTakesEffectAfterTheStatus : Prop :=
  ∀ (s : State) (f : Fields) (rest : List Turn), s.params.wf = true → s.fault = none → s.phase = .ctlPoll →
    s.ep0.armed = true → s.ep0.rxstp = true → s.ep0.stall = false → s.ep0.txrdy = true → s.ep0.inBuf = [] →
    s.vbus = true → decodeSetup s.params s.ep0.outBuf = .ok (.setAddress f) → f.dir = .hostToDevice →
    s.sched = .sequencer :: .event (.hostIn s.effAddr .ctl) :: .sequencer :: rest →
    ∃ t1 t2 t3 : State,
      Host.Core.run Sys2Proof.core 1 s = .next t1 ∧ t1.effAddr = s.effAddr ∧ t1.phase = .addrWait ∧
      Host.Core.run Sys2Proof.core 2 s = .next t2 ∧ t2.effAddr = s.effAddr ∧
      t2.wire = s.wire ++ [.inData 0 []] ∧
      Host.Core.run Sys2Proof.core 3 s = .next t3 ∧ t3.effAddr = BitVec.ofNat 7 (f.wValue.toNat % 128) ∧
      t3.cfg.curAddr = BitVec.ofNat 7 (f.wValue.toNat % 128) ∧ t3.phase = .bulkOut

/-- R95, R96: "Set Configuration followed by Get Configuration returns the value most recently set", when the
endpoint hardware takes both configurations. -/
def Obligations.ConfigurationReadsBack : Prop :=
  ∀ (f g : Fields) (s t : State) (rest : List Bool), s.cfgAnswers = true :: true :: rest →
    g.dir = .deviceToHost → exec (.setConfiguration f) s = .next t →
    t.fault = s.fault ∧
    ∃ u, exec (.getConfiguration g) t = .next u ∧
      u.phase = .inData [BitVec.ofNat 8 f.wValue.toNat] (BitVec.ofNat 16 (min 1 g.wLength.toNat)) 0

/-- R87, R80, R81, R83: a SETUP that arrives in any wait aborts it: within four turns of the sequencer the new
request is captured, so the machine does not lock up (the schedule is the model's: log entry 2). -/
def Obligations.NewSetupAbortsAnyWait : Prop :=
  ∀ (s : State) (a : Addr) (p : Vector Byte 8) (q : SetupRequest) (rest : List Turn), Inv s →
    s.params.wf = true → s.fault = none → s.vbus = true → a = s.effAddr →
    requestOfBytes p.toList = .ok q →
    ((∃ src total sent, s.phase = .inData src total sent) ∨ s.phase = .inStatus ∨ s.phase = .addrWait) →
    s.sched = .event (.hostSetup a p) :: .sequencer :: .sequencer :: .sequencer :: .sequencer :: rest →
    ∃ t2 t5 : State,
      Host.Core.run Sys2Proof.core 2 s = .next t2 ∧ t2.phase = .bulkOut ∧
      t2.cfg = s.cfg ∧ t2.pendAddr = s.pendAddr ∧ t2.effAddr = s.effAddr ∧
      Host.Core.run Sys2Proof.core 5 s = .next t5 ∧ t5.setup = some q ∧ t5.ep0.rxstp = false

/-! ## The bulk relay -/

/-- R115, R116, R117, R69: what the byte rows write on their own (log entry 18): the single pending slot,
whatever it held, and the serial sink only under `Forward`. -/
def Obligations.ByteRowsWriteTheSlot : Prop :=
  ∀ (b : Byte) (s : State),
    exec .bulkTrigger s = .next { s with relay := { pending := .banner, lastIn := s.relay.lastIn } } ∧
    exec (.bulkEcho b) s = .next { s with relay := { pending := .echo, lastIn := s.relay.lastIn } } ∧
    exec (.serialForward b) s = .next
      (match s.params.serialTxOnOut with
        | .forward => { s with serialOut := s.serialOut ++ [b] }
        | .none => s)

/-- R114, R119: the inbound check reads the whole bank, frees it, and leaves the last byte's class pending
(last write wins); every byte goes to the serial sink under `Forward`; no packet, no effect; a count above
the packet size raises (log entry 5). -/
def Obligations.BulkOutRelaysTheLastByte : Prop :=
  ∀ s : State, s.params.wf = true →
    (s.epOut.rxout = false → exec .bulkOut s = .next { s with sel := s.params.epOut, phase := .bulkIn }) ∧
    (s.epOut.rxout = true → s.epOut.outBuf.length ≤ 64 →
      exec .bulkOut s = .next
        { s with
          sel := s.params.epOut
          epOut := { s.epOut with rxout := false, outBuf := [] }
          relay := match s.epOut.outBuf.getLast? with
            | none => s.relay
            | some b => { pending := if b = 0x61 then .banner else .echo, lastIn := some b }
          serialOut := match s.params.serialTxOnOut with
            | .forward => s.serialOut ++ s.epOut.outBuf
            | .none => s.serialOut
          phase := .bulkIn }) ∧
    (s.epOut.rxout = true → 64 < s.epOut.outBuf.length → s.epOut.outBuf.length ≤ 255 →
      exec .bulkOut s = .next (faulted .invariantViolation { s with sel := s.params.epOut }))

/-- R118, R70: the outbound check sends one packet, the two status bytes and the banner or the last byte, when
an item is pending and the bank is free, and then nothing is pending; else it does nothing. The bank is
clean and a pending echo has its byte (Safety.Inv). -/
def Obligations.BulkInSendsThePendingItem : Prop :=
  ∀ s : State, s.params.wf = true →
    (s.relay.pending = .none ∨ s.epIn.txrdy = false →
      exec .bulkIn s = .next { s with sel := s.params.epIn, phase := .ctlPoll }) ∧
    (∀ payload, s.epIn.txrdy = true → s.epIn.inBuf = [] →
      (s.relay.pending = .banner ∧ payload = s.params.banner ∨
        s.relay.pending = .echo ∧ ∃ b, s.relay.lastIn = some b ∧ payload = [b]) →
      exec .bulkIn s = .next
        { s with
          sel := s.params.epIn
          epIn := { s.epIn with inQ := some ([0x80, 0x00] ++ payload), txrdy := false }
          relay := { pending := .none, lastIn := s.relay.lastIn }
          phase := .ctlPoll })

/-- R120: only a trigger byte makes a banner pending: a byte 0x61 that ends the packet the inbound check
reads, or one that the serial line delivers under `Classify` (the schedule is the model's: log entry 2). -/
def Obligations.BannerOnlyFromTriggerByte : Prop :=
  ∀ (s t : State), Inv s → step s = .next t → s.relay.pending ≠ .banner → t.relay.pending = .banner →
    (s.phase = .bulkOut ∧ s.epOut.rxout = true ∧ s.epOut.outBuf.getLast? = some 0x61) ∨
    (s.params.serialRxMode = .classify ∧ ∃ rest, s.sched = .event (.serialRx 0x61) :: rest)

/-! ## Events -/

/-- R128, R28: a SETUP is always accepted at the effective address, even over an unread one; it clears the
stall and discards the IN bank. -/
def Obligations.HostSetupResult : Prop :=
  ∀ (a : Addr) (p : Vector Byte 8) (s : State), s.vbus = true →
    exec (.hostSetup a p) s = .next
      (if a ≠ (if s.addrEn = true then s.devAddr else 0) ∨ s.ep0.armed = false then
         { s with wire := s.wire ++ [.timeout a 0] }
       else
         { s with
           ep0 :=
            { armed := true
              rxstp := true
              rxout := false
              txrdy := true
              stall := false
              outBuf := p.toList
              inBuf := []
              inQ := none }
           wire := s.wire ++ [.setupAck p.toList] })

/-- R129, R28: what a host IN receives from endpoint 0 and from the bulk IN endpoint, and that taking a packet
frees the bank. -/
def Obligations.HostInResult : Prop :=
  ∀ (a : Addr) (s : State), s.vbus = true →
    let addr : Addr := if s.addrEn = true then s.devAddr else 0
    let taken (x : Endpoint) : Endpoint :=
      if x.armed = true ∧ x.stall = false ∧ x.inQ ≠ none then { x with inQ := none, txrdy := true } else x
    let entry (e : EpNum) (x : Endpoint) : WireEntry :=
      if a ≠ addr ∨ x.armed = false then .timeout a e
      else if x.stall = true then .stall e
      else match x.inQ with
        | some q => .inData e q
        | none => .nak e
    exec (.hostIn a .ctl) s = .next
      { s with
        wire := s.wire ++ [entry 0 s.ep0]
        ep0 := if a = addr then taken s.ep0 else s.ep0 } ∧
    exec (.hostIn a .bulk) s = .next
      { s with
        wire := s.wire ++ [entry s.params.epIn s.epIn]
        epIn := if a = addr then taken s.epIn else s.epIn }

/-- R130, R28: an OUT fills an empty bank or is refused with NAK, on endpoint 0 also while an uncaptured SETUP
is in the bank; a stalled endpoint answers STALL; a wrong address or an unarmed endpoint times out. -/
def Obligations.HostOutResult : Prop :=
  ∀ (a : Addr) (p : List Byte) (s : State), s.vbus = true →
    let addr : Addr := if s.addrEn = true then s.devAddr else 0
    exec (.hostOut a .ctl p) s = .next
      (if a ≠ addr ∨ s.ep0.armed = false then { s with wire := s.wire ++ [.timeout a 0] }
       else if s.ep0.stall = true then { s with wire := s.wire ++ [.stall 0] }
       else if s.ep0.rxout = true ∨ s.ep0.rxstp = true then { s with wire := s.wire ++ [.nak 0] }
       else { s with
         ep0 := { s.ep0 with outBuf := p, rxout := true }, wire := s.wire ++ [.outAck 0 p.length] }) ∧
    exec (.hostOut a .bulk p) s = .next
      (if a ≠ addr ∨ s.epOut.armed = false then { s with wire := s.wire ++ [.timeout a s.params.epOut] }
       else if s.epOut.stall = true then { s with wire := s.wire ++ [.stall s.params.epOut] }
       else if s.epOut.rxout = true then { s with wire := s.wire ++ [.nak s.params.epOut] }
       else { s with
         epOut := { s.epOut with outBuf := p, rxout := true }
         wire := s.wire ++ [.outAck s.params.epOut p.length] })

/-- R131, R148: a bus reset returns the device to address 0, unconfigured, with the bulk endpoints disarmed and
endpoint 0 armed afresh, and keeps phase, setup, relay, conn and sel; a refused configuration raises and
ends the step before its wire entry (log entry 20), and a fault register that holds a code keeps it (log
entry 5); whatever answers. -/
def Obligations.BusResetResult : Prop :=
  ∀ s : State, s.vbus = true →
    let idle : Endpoint := { armedEndpoint false with armed := false }
    let s1 : State :=
      { s with
        devAddr := 0, addrEn := false, epIn := idle, epOut := idle
        cfg := { cfgValue := 0, curAddr := 0 }, pendAddr := none }
    let d := drawConfigOk s1
    exec .busReset s = .next
      (if d.1 = false then faulted .endpointConfig d.2
       else { d.2 with ep0 := armedEndpoint true, wire := s.wire ++ [.busReset] })

/-- The model's choice (log entry 3): R28 enables host steps only while `vbus` is true; a host step that is
chosen all the same changes nothing. -/
def Obligations.DisabledHostStepsChangeNothing : Prop :=
  ∀ (a : Addr) (p : Vector Byte 8) (b : List Byte) (e : InPipe) (o : OutPipe) (s : State), s.vbus = false →
    exec (.hostSetup a p) s = .next s ∧ exec (.hostIn a e) s = .next s ∧ exec (.hostOut a o b) s = .next s ∧
      exec .busReset s = .next s

/-- R132, R133: bus power drives `vbus` and the connection state, with one diagnostic a change. -/
def Obligations.PowerEventsDriveTheConnection : Prop :=
  ∀ s : State,
    exec .vbusOn s = .next
      (if s.conn = .disconnected then
        { s with vbus := true, conn := .enumerated, diag := s.diag ++ [.connected] }
       else { s with vbus := true }) ∧
    exec .vbusOff s = .next
      (if s.conn = .enumerated then
        { s with vbus := false, conn := .disconnected, diag := s.diag ++ [.disconnected] }
       else { s with vbus := false })

/-- R134: a serial byte enters the relay slot under `Classify` and changes nothing under `Ignored`. -/
def Obligations.SerialReceiveResult : Prop :=
  ∀ (b : Byte) (s : State),
    exec (.serialRx b) s = .next
      (match s.params.serialRxMode with
        | .classify =>
          { s with relay := { pending := if b = 0x61 then .banner else .echo, lastIn := some b } }
        | .ignored => s)

/-- R139, D33: an event never changes the selection, and changes the phase only by entering the fault state. -/
def Obligations.EventsKeepPhaseAndSelection : Prop :=
  ∀ (e : Event) (s t : State), exec e.instr s = .next t →
    t.sel = s.sel ∧ t.setup = s.setup ∧ (t.phase = s.phase ∨ t.phase = .halted ∧ t.fault ≠ none)

/-! ## The fault state -/

/-- R124: what a raise does, and that nothing else changes; the register is written once (R22, log entry 5). -/
def Obligations.RaiseEntersTheFaultState : Prop :=
  ∀ (c : FaultCode) (s : State),
    (s.fault = none →
      raiseFault c s = { s with fault := some c, phase := .halted, diag := s.diag ++ [.haltMarker c] }) ∧
    (∀ c', s.fault = some c' →
      raiseFault c s = { s with phase := .halted, diag := s.diag ++ [.haltMarker c] })

/-- R126: in the fault state the sequencer's turn is a fault outcome (the model's form of "no step" there: log
entry 4; the schedule: log entry 2). -/
def Obligations.FaultedSequencerTurnFaults : Prop :=
  ∀ (s s' : State) (c : FaultCode), s.params.wf = true → s.fault = some c → sequencerChosen s s' →
    step s = .fault (.halted (some c))

/-- R126, R22: no step but power-on startup clears or changes the fault register or leaves `Halted`. That a second
raise, which a refused bus reset makes, keeps the first code is the model's reading of R22 (log entry 5), and
startup as a turn of the schedule is its choice (log entry 2). -/
def Obligations.FaultIsSticky : Prop :=
  ∀ (s t : State) (c : FaultCode), s.fault = some c → step s = .next t →
    (∀ rest, s.sched ≠ .powerOn :: rest) →
    t.fault = some c ∧ (s.phase = .halted → t.phase = .halted)

/-! ## Invariants and whole-machine rules -/

/-- R22, R46, R76, R88, R130, U2, U4: every step keeps the invariant; in particular no schedule, no host and no
answer of the endpoint hardware leads to the fault InvariantViolation. -/
def Obligations.StepKeepsTheInvariant : Prop :=
  ∀ (s t : State), Inv s → step s = .next t → Inv t

/-- R72, R126: a program that says no answer of its own never leads to the fault state, whatever its lines: every
EP_CONFIG_OK draw inside it answers true, so none is left to the free value, and the invariant stays. Only an OUT
line longer than a packet is refused (log entry 17). The bound on its steps is the model's (log entry 21). -/
def Obligations.ProgramsNeverFault : Prop :=
  ∀ (fuel : Nat) (ls : List Line) (h : Session), Inv h.machine → h.machine.params.wf = true →
    h.machine.fault = none → h.machine.cfgAnswers = [] →
    (∃ h' : Session, runLines fuel ls h = .next h' ∧ Inv h'.machine ∧ h'.machine.fault = none ∧
      h'.machine.cfgAnswers = [] ∧ h'.machine.cfgDraws = h.machine.cfgDraws) ∨
    (runLines fuel ls h = .refused .illFormedEvent ∧ ∃ e p, Line.out e p ∈ ls ∧ 64 < p.length)

/-- The invariant holds after reset (a startup answered ok: log entry 27). -/
def Obligations.ResetMeetsTheInvariant : Prop := Inv State.reset

/-- R23: the outputs only grow and no instruction reads them: with anything put before them, the same happens. -/
def Obligations.OutputsAreNeverRead : Prop :=
  ∀ (i : Instr) (s t : State) (w : List WireEntry) (d : List DiagEvent) (o : List Byte),
    exec i s = .next t →
    exec i { s with wire := w ++ s.wire, diag := d ++ s.diag, serialOut := o ++ s.serialOut }
      = .next { t with wire := w ++ t.wire, diag := d ++ t.diag, serialOut := o ++ t.serialOut }

/-- R20, R113: no instruction but the two power events reads or writes the connection state. -/
def Obligations.ConnectionStateGatesNothing : Prop :=
  ∀ (i : Instr) (s t : State) (c : Conn), i ≠ .vbusOn → i ≠ .vbusOff → exec i s = .next t →
    exec i { s with conn := c } = .next { t with conn := c }

/-- R61, D7: no request handler reads the recipient: with another one, only the recorded request differs.
V_OTHER is left out because its diagnostic records bmRequestType (R112). -/
def Obligations.RecipientIsNeverRead : Prop :=
  ∀ (i : Instr) (s t : State) (r : BitVec 5) (q : SetupRequest), i.request s.params = some q →
    (∀ code f, i ≠ .vOther code f) → exec i s = .next t →
    exec (withRecipient r i) s = .next { t with setup := (withRecipient r i).request s.params }
end

