-- ==== Sys2Proof/Laws/Exec.lean ====
section
/-! SUPPORT. No instruction ends a run: every meaning answers a next state, the fault state among them
(60_exceptions.md R124). -/

namespace Sys2Proof.Machine

/-- Every instruction answers a next state in every state. -/
theorem exec_next (i : Instr) (s : State) : ∃ t, exec i s = .next t := by
  cases i <;> exact ⟨_, rfl⟩

end Sys2Proof.Machine
end

