-- ==== Sys2Proof/Laws/State.lean ====
section
/-! SUPPORT. One lemma per field per update of the state, so that no proof unfolds a record update. -/

namespace Sys2Proof.Machine

/-! ## setPhase -/

@[simp] theorem setPhase_params (ph : Phase) (s : State) : (setPhase ph s).params = s.params := rfl
@[simp] theorem setPhase_phase (ph : Phase) (s : State) : (setPhase ph s).phase = ph := rfl
@[simp] theorem setPhase_setup (ph : Phase) (s : State) : (setPhase ph s).setup = s.setup := rfl
@[simp] theorem setPhase_cfg (ph : Phase) (s : State) : (setPhase ph s).cfg = s.cfg := rfl
@[simp] theorem setPhase_pendAddr (ph : Phase) (s : State) : (setPhase ph s).pendAddr = s.pendAddr := rfl
@[simp] theorem setPhase_conn (ph : Phase) (s : State) : (setPhase ph s).conn = s.conn := rfl
@[simp] theorem setPhase_relay (ph : Phase) (s : State) : (setPhase ph s).relay = s.relay := rfl
@[simp] theorem setPhase_fault (ph : Phase) (s : State) : (setPhase ph s).fault = s.fault := rfl
@[simp] theorem setPhase_wire (ph : Phase) (s : State) : (setPhase ph s).wire = s.wire := rfl
@[simp] theorem setPhase_diag (ph : Phase) (s : State) : (setPhase ph s).diag = s.diag := rfl
@[simp] theorem setPhase_serialOut (ph : Phase) (s : State) : (setPhase ph s).serialOut = s.serialOut := rfl
@[simp] theorem setPhase_sel (ph : Phase) (s : State) : (setPhase ph s).sel = s.sel := rfl
@[simp] theorem setPhase_ep0 (ph : Phase) (s : State) : (setPhase ph s).ep0 = s.ep0 := rfl
@[simp] theorem setPhase_epIn (ph : Phase) (s : State) : (setPhase ph s).epIn = s.epIn := rfl
@[simp] theorem setPhase_epOut (ph : Phase) (s : State) : (setPhase ph s).epOut = s.epOut := rfl
@[simp] theorem setPhase_devAddr (ph : Phase) (s : State) : (setPhase ph s).devAddr = s.devAddr := rfl
@[simp] theorem setPhase_addrEn (ph : Phase) (s : State) : (setPhase ph s).addrEn = s.addrEn := rfl
@[simp] theorem setPhase_vbus (ph : Phase) (s : State) : (setPhase ph s).vbus = s.vbus := rfl
@[simp] theorem setPhase_sched (ph : Phase) (s : State) : (setPhase ph s).sched = s.sched := rfl
@[simp] theorem setPhase_cfgAnswers (ph : Phase) (s : State) : (setPhase ph s).cfgAnswers = s.cfgAnswers := rfl
@[simp] theorem setPhase_cfgDraws (ph : Phase) (s : State) : (setPhase ph s).cfgDraws = s.cfgDraws := rfl

/-! ## emitWire -/

@[simp] theorem emitWire_params (w : WireEntry) (s : State) : (emitWire w s).params = s.params := rfl
@[simp] theorem emitWire_phase (w : WireEntry) (s : State) : (emitWire w s).phase = s.phase := rfl
@[simp] theorem emitWire_setup (w : WireEntry) (s : State) : (emitWire w s).setup = s.setup := rfl
@[simp] theorem emitWire_cfg (w : WireEntry) (s : State) : (emitWire w s).cfg = s.cfg := rfl
@[simp] theorem emitWire_pendAddr (w : WireEntry) (s : State) : (emitWire w s).pendAddr = s.pendAddr := rfl
@[simp] theorem emitWire_conn (w : WireEntry) (s : State) : (emitWire w s).conn = s.conn := rfl
@[simp] theorem emitWire_relay (w : WireEntry) (s : State) : (emitWire w s).relay = s.relay := rfl
@[simp] theorem emitWire_fault (w : WireEntry) (s : State) : (emitWire w s).fault = s.fault := rfl
@[simp] theorem emitWire_wire (w : WireEntry) (s : State) : (emitWire w s).wire = s.wire ++ [w] := rfl
@[simp] theorem emitWire_diag (w : WireEntry) (s : State) : (emitWire w s).diag = s.diag := rfl
@[simp] theorem emitWire_serialOut (w : WireEntry) (s : State) : (emitWire w s).serialOut = s.serialOut := rfl
@[simp] theorem emitWire_sel (w : WireEntry) (s : State) : (emitWire w s).sel = s.sel := rfl
@[simp] theorem emitWire_ep0 (w : WireEntry) (s : State) : (emitWire w s).ep0 = s.ep0 := rfl
@[simp] theorem emitWire_epIn (w : WireEntry) (s : State) : (emitWire w s).epIn = s.epIn := rfl
@[simp] theorem emitWire_epOut (w : WireEntry) (s : State) : (emitWire w s).epOut = s.epOut := rfl
@[simp] theorem emitWire_devAddr (w : WireEntry) (s : State) : (emitWire w s).devAddr = s.devAddr := rfl
@[simp] theorem emitWire_addrEn (w : WireEntry) (s : State) : (emitWire w s).addrEn = s.addrEn := rfl
@[simp] theorem emitWire_vbus (w : WireEntry) (s : State) : (emitWire w s).vbus = s.vbus := rfl
@[simp] theorem emitWire_sched (w : WireEntry) (s : State) : (emitWire w s).sched = s.sched := rfl
@[simp] theorem emitWire_cfgAnswers (w : WireEntry) (s : State) : (emitWire w s).cfgAnswers = s.cfgAnswers := rfl
@[simp] theorem emitWire_cfgDraws (w : WireEntry) (s : State) : (emitWire w s).cfgDraws = s.cfgDraws := rfl

/-! ## emitDiag -/

@[simp] theorem emitDiag_params (d : DiagEvent) (s : State) : (emitDiag d s).params = s.params := rfl
@[simp] theorem emitDiag_phase (d : DiagEvent) (s : State) : (emitDiag d s).phase = s.phase := rfl
@[simp] theorem emitDiag_setup (d : DiagEvent) (s : State) : (emitDiag d s).setup = s.setup := rfl
@[simp] theorem emitDiag_cfg (d : DiagEvent) (s : State) : (emitDiag d s).cfg = s.cfg := rfl
@[simp] theorem emitDiag_pendAddr (d : DiagEvent) (s : State) : (emitDiag d s).pendAddr = s.pendAddr := rfl
@[simp] theorem emitDiag_conn (d : DiagEvent) (s : State) : (emitDiag d s).conn = s.conn := rfl
@[simp] theorem emitDiag_relay (d : DiagEvent) (s : State) : (emitDiag d s).relay = s.relay := rfl
@[simp] theorem emitDiag_fault (d : DiagEvent) (s : State) : (emitDiag d s).fault = s.fault := rfl
@[simp] theorem emitDiag_wire (d : DiagEvent) (s : State) : (emitDiag d s).wire = s.wire := rfl
@[simp] theorem emitDiag_diag (d : DiagEvent) (s : State) : (emitDiag d s).diag = s.diag ++ [d] := rfl
@[simp] theorem emitDiag_serialOut (d : DiagEvent) (s : State) : (emitDiag d s).serialOut = s.serialOut := rfl
@[simp] theorem emitDiag_sel (d : DiagEvent) (s : State) : (emitDiag d s).sel = s.sel := rfl
@[simp] theorem emitDiag_ep0 (d : DiagEvent) (s : State) : (emitDiag d s).ep0 = s.ep0 := rfl
@[simp] theorem emitDiag_epIn (d : DiagEvent) (s : State) : (emitDiag d s).epIn = s.epIn := rfl
@[simp] theorem emitDiag_epOut (d : DiagEvent) (s : State) : (emitDiag d s).epOut = s.epOut := rfl
@[simp] theorem emitDiag_devAddr (d : DiagEvent) (s : State) : (emitDiag d s).devAddr = s.devAddr := rfl
@[simp] theorem emitDiag_addrEn (d : DiagEvent) (s : State) : (emitDiag d s).addrEn = s.addrEn := rfl
@[simp] theorem emitDiag_vbus (d : DiagEvent) (s : State) : (emitDiag d s).vbus = s.vbus := rfl
@[simp] theorem emitDiag_sched (d : DiagEvent) (s : State) : (emitDiag d s).sched = s.sched := rfl
@[simp] theorem emitDiag_cfgAnswers (d : DiagEvent) (s : State) : (emitDiag d s).cfgAnswers = s.cfgAnswers := rfl
@[simp] theorem emitDiag_cfgDraws (d : DiagEvent) (s : State) : (emitDiag d s).cfgDraws = s.cfgDraws := rfl

/-! ## emitSerial -/

@[simp] theorem emitSerial_params (b : Byte) (s : State) : (emitSerial b s).params = s.params := rfl
@[simp] theorem emitSerial_phase (b : Byte) (s : State) : (emitSerial b s).phase = s.phase := rfl
@[simp] theorem emitSerial_setup (b : Byte) (s : State) : (emitSerial b s).setup = s.setup := rfl
@[simp] theorem emitSerial_cfg (b : Byte) (s : State) : (emitSerial b s).cfg = s.cfg := rfl
@[simp] theorem emitSerial_pendAddr (b : Byte) (s : State) : (emitSerial b s).pendAddr = s.pendAddr := rfl
@[simp] theorem emitSerial_conn (b : Byte) (s : State) : (emitSerial b s).conn = s.conn := rfl
@[simp] theorem emitSerial_relay (b : Byte) (s : State) : (emitSerial b s).relay = s.relay := rfl
@[simp] theorem emitSerial_fault (b : Byte) (s : State) : (emitSerial b s).fault = s.fault := rfl
@[simp] theorem emitSerial_wire (b : Byte) (s : State) : (emitSerial b s).wire = s.wire := rfl
@[simp] theorem emitSerial_diag (b : Byte) (s : State) : (emitSerial b s).diag = s.diag := rfl
@[simp] theorem emitSerial_serialOut (b : Byte) (s : State) : (emitSerial b s).serialOut = s.serialOut ++ [b] := rfl
@[simp] theorem emitSerial_sel (b : Byte) (s : State) : (emitSerial b s).sel = s.sel := rfl
@[simp] theorem emitSerial_ep0 (b : Byte) (s : State) : (emitSerial b s).ep0 = s.ep0 := rfl
@[simp] theorem emitSerial_epIn (b : Byte) (s : State) : (emitSerial b s).epIn = s.epIn := rfl
@[simp] theorem emitSerial_epOut (b : Byte) (s : State) : (emitSerial b s).epOut = s.epOut := rfl
@[simp] theorem emitSerial_devAddr (b : Byte) (s : State) : (emitSerial b s).devAddr = s.devAddr := rfl
@[simp] theorem emitSerial_addrEn (b : Byte) (s : State) : (emitSerial b s).addrEn = s.addrEn := rfl
@[simp] theorem emitSerial_vbus (b : Byte) (s : State) : (emitSerial b s).vbus = s.vbus := rfl
@[simp] theorem emitSerial_sched (b : Byte) (s : State) : (emitSerial b s).sched = s.sched := rfl
@[simp] theorem emitSerial_cfgAnswers (b : Byte) (s : State) : (emitSerial b s).cfgAnswers = s.cfgAnswers := rfl
@[simp] theorem emitSerial_cfgDraws (b : Byte) (s : State) : (emitSerial b s).cfgDraws = s.cfgDraws := rfl

/-! ## epSelect -/

@[simp] theorem epSelect_params (e : EpId) (s : State) : (epSelect e s).params = s.params := rfl
@[simp] theorem epSelect_phase (e : EpId) (s : State) : (epSelect e s).phase = s.phase := rfl
@[simp] theorem epSelect_setup (e : EpId) (s : State) : (epSelect e s).setup = s.setup := rfl
@[simp] theorem epSelect_cfg (e : EpId) (s : State) : (epSelect e s).cfg = s.cfg := rfl
@[simp] theorem epSelect_pendAddr (e : EpId) (s : State) : (epSelect e s).pendAddr = s.pendAddr := rfl
@[simp] theorem epSelect_conn (e : EpId) (s : State) : (epSelect e s).conn = s.conn := rfl
@[simp] theorem epSelect_relay (e : EpId) (s : State) : (epSelect e s).relay = s.relay := rfl
@[simp] theorem epSelect_fault (e : EpId) (s : State) : (epSelect e s).fault = s.fault := rfl
@[simp] theorem epSelect_wire (e : EpId) (s : State) : (epSelect e s).wire = s.wire := rfl
@[simp] theorem epSelect_diag (e : EpId) (s : State) : (epSelect e s).diag = s.diag := rfl
@[simp] theorem epSelect_serialOut (e : EpId) (s : State) : (epSelect e s).serialOut = s.serialOut := rfl
@[simp] theorem epSelect_sel (e : EpId) (s : State) : (epSelect e s).sel = e.number s.params := rfl
@[simp] theorem epSelect_ep0 (e : EpId) (s : State) : (epSelect e s).ep0 = s.ep0 := rfl
@[simp] theorem epSelect_epIn (e : EpId) (s : State) : (epSelect e s).epIn = s.epIn := rfl
@[simp] theorem epSelect_epOut (e : EpId) (s : State) : (epSelect e s).epOut = s.epOut := rfl
@[simp] theorem epSelect_devAddr (e : EpId) (s : State) : (epSelect e s).devAddr = s.devAddr := rfl
@[simp] theorem epSelect_addrEn (e : EpId) (s : State) : (epSelect e s).addrEn = s.addrEn := rfl
@[simp] theorem epSelect_vbus (e : EpId) (s : State) : (epSelect e s).vbus = s.vbus := rfl
@[simp] theorem epSelect_sched (e : EpId) (s : State) : (epSelect e s).sched = s.sched := rfl
@[simp] theorem epSelect_cfgAnswers (e : EpId) (s : State) : (epSelect e s).cfgAnswers = s.cfgAnswers := rfl
@[simp] theorem epSelect_cfgDraws (e : EpId) (s : State) : (epSelect e s).cfgDraws = s.cfgDraws := rfl

/-! ## relayLast -/

@[simp] theorem relayLast_params (b : Byte) (s : State) : (relayLast b s).params = s.params := rfl
@[simp] theorem relayLast_phase (b : Byte) (s : State) : (relayLast b s).phase = s.phase := rfl
@[simp] theorem relayLast_setup (b : Byte) (s : State) : (relayLast b s).setup = s.setup := rfl
@[simp] theorem relayLast_cfg (b : Byte) (s : State) : (relayLast b s).cfg = s.cfg := rfl
@[simp] theorem relayLast_pendAddr (b : Byte) (s : State) : (relayLast b s).pendAddr = s.pendAddr := rfl
@[simp] theorem relayLast_conn (b : Byte) (s : State) : (relayLast b s).conn = s.conn := rfl
@[simp] theorem relayLast_relay (b : Byte) (s : State) : (relayLast b s).relay = { s.relay with lastIn := some b } := rfl
@[simp] theorem relayLast_fault (b : Byte) (s : State) : (relayLast b s).fault = s.fault := rfl
@[simp] theorem relayLast_wire (b : Byte) (s : State) : (relayLast b s).wire = s.wire := rfl
@[simp] theorem relayLast_diag (b : Byte) (s : State) : (relayLast b s).diag = s.diag := rfl
@[simp] theorem relayLast_serialOut (b : Byte) (s : State) : (relayLast b s).serialOut = s.serialOut := rfl
@[simp] theorem relayLast_sel (b : Byte) (s : State) : (relayLast b s).sel = s.sel := rfl
@[simp] theorem relayLast_ep0 (b : Byte) (s : State) : (relayLast b s).ep0 = s.ep0 := rfl
@[simp] theorem relayLast_epIn (b : Byte) (s : State) : (relayLast b s).epIn = s.epIn := rfl
@[simp] theorem relayLast_epOut (b : Byte) (s : State) : (relayLast b s).epOut = s.epOut := rfl
@[simp] theorem relayLast_devAddr (b : Byte) (s : State) : (relayLast b s).devAddr = s.devAddr := rfl
@[simp] theorem relayLast_addrEn (b : Byte) (s : State) : (relayLast b s).addrEn = s.addrEn := rfl
@[simp] theorem relayLast_vbus (b : Byte) (s : State) : (relayLast b s).vbus = s.vbus := rfl
@[simp] theorem relayLast_sched (b : Byte) (s : State) : (relayLast b s).sched = s.sched := rfl
@[simp] theorem relayLast_cfgAnswers (b : Byte) (s : State) : (relayLast b s).cfgAnswers = s.cfgAnswers := rfl
@[simp] theorem relayLast_cfgDraws (b : Byte) (s : State) : (relayLast b s).cfgDraws = s.cfgDraws := rfl

/-! ## relayTrigger -/

@[simp] theorem relayTrigger_params (s : State) : (relayTrigger s).params = s.params := rfl
@[simp] theorem relayTrigger_phase (s : State) : (relayTrigger s).phase = s.phase := rfl
@[simp] theorem relayTrigger_setup (s : State) : (relayTrigger s).setup = s.setup := rfl
@[simp] theorem relayTrigger_cfg (s : State) : (relayTrigger s).cfg = s.cfg := rfl
@[simp] theorem relayTrigger_pendAddr (s : State) : (relayTrigger s).pendAddr = s.pendAddr := rfl
@[simp] theorem relayTrigger_conn (s : State) : (relayTrigger s).conn = s.conn := rfl
@[simp] theorem relayTrigger_relay (s : State) : (relayTrigger s).relay = { s.relay with pending := .banner } := rfl
@[simp] theorem relayTrigger_fault (s : State) : (relayTrigger s).fault = s.fault := rfl
@[simp] theorem relayTrigger_wire (s : State) : (relayTrigger s).wire = s.wire := rfl
@[simp] theorem relayTrigger_diag (s : State) : (relayTrigger s).diag = s.diag := rfl
@[simp] theorem relayTrigger_serialOut (s : State) : (relayTrigger s).serialOut = s.serialOut := rfl
@[simp] theorem relayTrigger_sel (s : State) : (relayTrigger s).sel = s.sel := rfl
@[simp] theorem relayTrigger_ep0 (s : State) : (relayTrigger s).ep0 = s.ep0 := rfl
@[simp] theorem relayTrigger_epIn (s : State) : (relayTrigger s).epIn = s.epIn := rfl
@[simp] theorem relayTrigger_epOut (s : State) : (relayTrigger s).epOut = s.epOut := rfl
@[simp] theorem relayTrigger_devAddr (s : State) : (relayTrigger s).devAddr = s.devAddr := rfl
@[simp] theorem relayTrigger_addrEn (s : State) : (relayTrigger s).addrEn = s.addrEn := rfl
@[simp] theorem relayTrigger_vbus (s : State) : (relayTrigger s).vbus = s.vbus := rfl
@[simp] theorem relayTrigger_sched (s : State) : (relayTrigger s).sched = s.sched := rfl
@[simp] theorem relayTrigger_cfgAnswers (s : State) : (relayTrigger s).cfgAnswers = s.cfgAnswers := rfl
@[simp] theorem relayTrigger_cfgDraws (s : State) : (relayTrigger s).cfgDraws = s.cfgDraws := rfl

/-! ## relayEcho -/

@[simp] theorem relayEcho_params (s : State) : (relayEcho s).params = s.params := rfl
@[simp] theorem relayEcho_phase (s : State) : (relayEcho s).phase = s.phase := rfl
@[simp] theorem relayEcho_setup (s : State) : (relayEcho s).setup = s.setup := rfl
@[simp] theorem relayEcho_cfg (s : State) : (relayEcho s).cfg = s.cfg := rfl
@[simp] theorem relayEcho_pendAddr (s : State) : (relayEcho s).pendAddr = s.pendAddr := rfl
@[simp] theorem relayEcho_conn (s : State) : (relayEcho s).conn = s.conn := rfl
@[simp] theorem relayEcho_relay (s : State) : (relayEcho s).relay = { s.relay with pending := .echo } := rfl
@[simp] theorem relayEcho_fault (s : State) : (relayEcho s).fault = s.fault := rfl
@[simp] theorem relayEcho_wire (s : State) : (relayEcho s).wire = s.wire := rfl
@[simp] theorem relayEcho_diag (s : State) : (relayEcho s).diag = s.diag := rfl
@[simp] theorem relayEcho_serialOut (s : State) : (relayEcho s).serialOut = s.serialOut := rfl
@[simp] theorem relayEcho_sel (s : State) : (relayEcho s).sel = s.sel := rfl
@[simp] theorem relayEcho_ep0 (s : State) : (relayEcho s).ep0 = s.ep0 := rfl
@[simp] theorem relayEcho_epIn (s : State) : (relayEcho s).epIn = s.epIn := rfl
@[simp] theorem relayEcho_epOut (s : State) : (relayEcho s).epOut = s.epOut := rfl
@[simp] theorem relayEcho_devAddr (s : State) : (relayEcho s).devAddr = s.devAddr := rfl
@[simp] theorem relayEcho_addrEn (s : State) : (relayEcho s).addrEn = s.addrEn := rfl
@[simp] theorem relayEcho_vbus (s : State) : (relayEcho s).vbus = s.vbus := rfl
@[simp] theorem relayEcho_sched (s : State) : (relayEcho s).sched = s.sched := rfl
@[simp] theorem relayEcho_cfgAnswers (s : State) : (relayEcho s).cfgAnswers = s.cfgAnswers := rfl
@[simp] theorem relayEcho_cfgDraws (s : State) : (relayEcho s).cfgDraws = s.cfgDraws := rfl

/-! ## endOfReset -/

@[simp] theorem endOfReset_params (s : State) : (endOfReset s).params = s.params := rfl
@[simp] theorem endOfReset_phase (s : State) : (endOfReset s).phase = s.phase := rfl
@[simp] theorem endOfReset_setup (s : State) : (endOfReset s).setup = s.setup := rfl
@[simp] theorem endOfReset_cfg (s : State) : (endOfReset s).cfg = { cfgValue := 0, curAddr := 0 } := rfl
@[simp] theorem endOfReset_pendAddr (s : State) : (endOfReset s).pendAddr = none := rfl
@[simp] theorem endOfReset_conn (s : State) : (endOfReset s).conn = s.conn := rfl
@[simp] theorem endOfReset_relay (s : State) : (endOfReset s).relay = s.relay := rfl
@[simp] theorem endOfReset_fault (s : State) : (endOfReset s).fault = s.fault := rfl
@[simp] theorem endOfReset_wire (s : State) : (endOfReset s).wire = s.wire := rfl
@[simp] theorem endOfReset_diag (s : State) : (endOfReset s).diag = s.diag := rfl
@[simp] theorem endOfReset_serialOut (s : State) : (endOfReset s).serialOut = s.serialOut := rfl
@[simp] theorem endOfReset_sel (s : State) : (endOfReset s).sel = s.sel := rfl
@[simp] theorem endOfReset_ep0 (s : State) : (endOfReset s).ep0 = s.ep0 := rfl
@[simp] theorem endOfReset_epIn (s : State) : (endOfReset s).epIn = .disarmed := rfl
@[simp] theorem endOfReset_epOut (s : State) : (endOfReset s).epOut = .disarmed := rfl
@[simp] theorem endOfReset_devAddr (s : State) : (endOfReset s).devAddr = 0 := rfl
@[simp] theorem endOfReset_addrEn (s : State) : (endOfReset s).addrEn = false := rfl
@[simp] theorem endOfReset_vbus (s : State) : (endOfReset s).vbus = s.vbus := rfl
@[simp] theorem endOfReset_sched (s : State) : (endOfReset s).sched = s.sched := rfl
@[simp] theorem endOfReset_cfgAnswers (s : State) : (endOfReset s).cfgAnswers = s.cfgAnswers := rfl
@[simp] theorem endOfReset_cfgDraws (s : State) : (endOfReset s).cfgDraws = s.cfgDraws := rfl

/-! ## raiseFault -/

@[simp] theorem raiseFault_params (c : FaultCode) (s : State) : (raiseFault c s).params = s.params := rfl
@[simp] theorem raiseFault_phase (c : FaultCode) (s : State) : (raiseFault c s).phase = .halted := rfl
@[simp] theorem raiseFault_setup (c : FaultCode) (s : State) : (raiseFault c s).setup = s.setup := rfl
@[simp] theorem raiseFault_cfg (c : FaultCode) (s : State) : (raiseFault c s).cfg = s.cfg := rfl
@[simp] theorem raiseFault_pendAddr (c : FaultCode) (s : State) : (raiseFault c s).pendAddr = s.pendAddr := rfl
@[simp] theorem raiseFault_conn (c : FaultCode) (s : State) : (raiseFault c s).conn = s.conn := rfl
@[simp] theorem raiseFault_relay (c : FaultCode) (s : State) : (raiseFault c s).relay = s.relay := rfl
@[simp] theorem raiseFault_fault (c : FaultCode) (s : State) : (raiseFault c s).fault = s.fault.or (some c) := by
  cases h : s.fault <;> simp [raiseFault, h]
@[simp] theorem raiseFault_wire (c : FaultCode) (s : State) : (raiseFault c s).wire = s.wire := rfl
@[simp] theorem raiseFault_diag (c : FaultCode) (s : State) : (raiseFault c s).diag = s.diag ++ [.haltMarker c] := rfl
@[simp] theorem raiseFault_serialOut (c : FaultCode) (s : State) : (raiseFault c s).serialOut = s.serialOut := rfl
@[simp] theorem raiseFault_sel (c : FaultCode) (s : State) : (raiseFault c s).sel = s.sel := rfl
@[simp] theorem raiseFault_ep0 (c : FaultCode) (s : State) : (raiseFault c s).ep0 = s.ep0 := rfl
@[simp] theorem raiseFault_epIn (c : FaultCode) (s : State) : (raiseFault c s).epIn = s.epIn := rfl
@[simp] theorem raiseFault_epOut (c : FaultCode) (s : State) : (raiseFault c s).epOut = s.epOut := rfl
@[simp] theorem raiseFault_devAddr (c : FaultCode) (s : State) : (raiseFault c s).devAddr = s.devAddr := rfl
@[simp] theorem raiseFault_addrEn (c : FaultCode) (s : State) : (raiseFault c s).addrEn = s.addrEn := rfl
@[simp] theorem raiseFault_vbus (c : FaultCode) (s : State) : (raiseFault c s).vbus = s.vbus := rfl
@[simp] theorem raiseFault_sched (c : FaultCode) (s : State) : (raiseFault c s).sched = s.sched := rfl
@[simp] theorem raiseFault_cfgAnswers (c : FaultCode) (s : State) : (raiseFault c s).cfgAnswers = s.cfgAnswers := rfl
@[simp] theorem raiseFault_cfgDraws (c : FaultCode) (s : State) : (raiseFault c s).cfgDraws = s.cfgDraws := rfl

/-! ## setEp -/

@[simp] theorem setEp_params (s : State) (e : EpId) (x : Endpoint) : (s.setEp e x).params = s.params := by
  cases e <;> rfl
@[simp] theorem setEp_phase (s : State) (e : EpId) (x : Endpoint) : (s.setEp e x).phase = s.phase := by
  cases e <;> rfl
@[simp] theorem setEp_setup (s : State) (e : EpId) (x : Endpoint) : (s.setEp e x).setup = s.setup := by
  cases e <;> rfl
@[simp] theorem setEp_cfg (s : State) (e : EpId) (x : Endpoint) : (s.setEp e x).cfg = s.cfg := by
  cases e <;> rfl
@[simp] theorem setEp_pendAddr (s : State) (e : EpId) (x : Endpoint) : (s.setEp e x).pendAddr = s.pendAddr := by
  cases e <;> rfl
@[simp] theorem setEp_conn (s : State) (e : EpId) (x : Endpoint) : (s.setEp e x).conn = s.conn := by
  cases e <;> rfl
@[simp] theorem setEp_relay (s : State) (e : EpId) (x : Endpoint) : (s.setEp e x).relay = s.relay := by
  cases e <;> rfl
@[simp] theorem setEp_fault (s : State) (e : EpId) (x : Endpoint) : (s.setEp e x).fault = s.fault := by
  cases e <;> rfl
@[simp] theorem setEp_wire (s : State) (e : EpId) (x : Endpoint) : (s.setEp e x).wire = s.wire := by
  cases e <;> rfl
@[simp] theorem setEp_diag (s : State) (e : EpId) (x : Endpoint) : (s.setEp e x).diag = s.diag := by
  cases e <;> rfl
@[simp] theorem setEp_serialOut (s : State) (e : EpId) (x : Endpoint) : (s.setEp e x).serialOut = s.serialOut := by
  cases e <;> rfl
@[simp] theorem setEp_sel (s : State) (e : EpId) (x : Endpoint) : (s.setEp e x).sel = s.sel := by
  cases e <;> rfl
@[simp] theorem setEp_devAddr (s : State) (e : EpId) (x : Endpoint) : (s.setEp e x).devAddr = s.devAddr := by
  cases e <;> rfl
@[simp] theorem setEp_addrEn (s : State) (e : EpId) (x : Endpoint) : (s.setEp e x).addrEn = s.addrEn := by
  cases e <;> rfl
@[simp] theorem setEp_vbus (s : State) (e : EpId) (x : Endpoint) : (s.setEp e x).vbus = s.vbus := by
  cases e <;> rfl
@[simp] theorem setEp_sched (s : State) (e : EpId) (x : Endpoint) : (s.setEp e x).sched = s.sched := by
  cases e <;> rfl
@[simp] theorem setEp_cfgAnswers (s : State) (e : EpId) (x : Endpoint) : (s.setEp e x).cfgAnswers = s.cfgAnswers := by
  cases e <;> rfl
@[simp] theorem setEp_cfgDraws (s : State) (e : EpId) (x : Endpoint) : (s.setEp e x).cfgDraws = s.cfgDraws := by
  cases e <;> rfl
@[simp] theorem setEp_ctl (s : State) (x : Endpoint) : s.setEp .ctl x = { s with ep0 := x } := rfl
@[simp] theorem setEp_bulkIn (s : State) (x : Endpoint) : s.setEp .bulkIn x = { s with epIn := x } := rfl
@[simp] theorem setEp_bulkOut (s : State) (x : Endpoint) : s.setEp .bulkOut x = { s with epOut := x } := rfl
@[simp] theorem ep_ctl (s : State) : s.ep .ctl = s.ep0 := rfl
@[simp] theorem ep_bulkIn (s : State) : s.ep .bulkIn = s.epIn := rfl
@[simp] theorem ep_bulkOut (s : State) : s.ep .bulkOut = s.epOut := rfl
@[simp] theorem ep_setEp_same (s : State) (e : EpId) (x : Endpoint) : (s.setEp e x).ep e = x := by
  cases e <;> rfl
theorem ep_setEp_other (s : State) (e d : EpId) (x : Endpoint) (h : d ≠ e) : (s.setEp e x).ep d = s.ep d := by
  cases e <;> cases d <;> first | rfl | exact absurd rfl h
@[simp] theorem setEp_setEp (s : State) (e : EpId) (x y : Endpoint) : (s.setEp e x).setEp e y = s.setEp e y := by
  cases e <;> rfl
@[simp] theorem setEp_ep (s : State) (e : EpId) : s.setEp e (s.ep e) = s := by
  cases e <;> rfl
@[simp] theorem ep_setPhase (ph : Phase) (s : State) (e : EpId) : (setPhase ph s).ep e = s.ep e := by
  cases e <;> rfl
@[simp] theorem ep_epSelect (d e : EpId) (s : State) : (epSelect d s).ep e = s.ep e := by
  cases e <;> rfl
@[simp] theorem ep_emitWire (w : WireEntry) (s : State) (e : EpId) : (emitWire w s).ep e = s.ep e := by
  cases e <;> rfl

/-! ## Res -/

@[simp] theorem bind_ok {α β : Type} (a : α) (s : State) (k : α → State → Res β) :
    (Res.ok a s).bind k = k a s := rfl
@[simp] theorem bind_raised {α β : Type} (s : State) (k : α → State → Res β) :
    (Res.raised s : Res α).bind k = .raised s := rfl
@[simp] theorem bind_raise {α β : Type} (c : FaultCode) (s : State) (k : α → State → Res β) :
    (raise c s : Res α).bind k = raise c s := rfl
@[simp] theorem state_ok {α : Type} (a : α) (s : State) : (Res.ok a s).state = s := rfl
@[simp] theorem state_raised {α : Type} (s : State) : (Res.raised s : Res α).state = s := rfl
@[simp] theorem state_raise {α : Type} (c : FaultCode) (s : State) :
    (raise c s : Res α).state = raiseFault c s := rfl
theorem answer_eq (r : Res Unit) : answer r = .next r.state := rfl

end Sys2Proof.Machine
end

