-- ==== Sys2Proof/Laws/Ops.lean ====
section
/-! SUPPORT. One lemma per shared operation: once everything it can do. Proofs cite these and do not unfold
the operations. -/

namespace Sys2Proof.Machine

/-! ## Selection (R25, R37) -/

@[simp] theorem endpointOf_zero (p : Params) : endpointOf p 0 = some .ctl := by
  simp [endpointOf]

/-- What R10 says, as facts. -/
theorem params_facts {p : Params} (h : p.wf = true) :
    p.epIn ≠ p.epOut ∧ p.epIn ≠ 0 ∧ p.epOut ≠ 0 ∧ p.banner.length ≤ 62 ∧
      stringLength p.strProduct ≤ 255 ∧ stringLength p.strSerial ≤ 255 := by
  simp only [Params.wf, Bool.and_eq_true, decide_eq_true_eq] at h
  obtain ⟨⟨⟨⟨⟨⟨⟨h1, h2⟩, h3⟩, h4⟩, h5⟩, h6⟩, -⟩, -⟩ := h
  exact ⟨by simpa using h1, by simpa using h2, by simpa using h3, h4, h5, h6⟩

/-- The number of an endpoint names that endpoint (R10, R26). -/
theorem endpointOf_number {p : Params} (h : p.wf = true) (e : EpId) : endpointOf p (e.number p) = some e := by
  obtain ⟨h1, h2, h3, -⟩ := params_facts h
  cases e
  · exact endpointOf_zero p
  · rw [EpId.number, endpointOf, if_neg h2, if_pos rfl]
  · rw [EpId.number, endpointOf, if_neg h3, if_neg (Ne.symm h1), if_pos rfl]

theorem selected_of {s : State} {e : EpId} (h : endpointOf s.params s.sel = some e) : selected s = .ok e s := by
  simp [selected, h]

/-- After `EpSelect(0)` endpoint 0 is selected, whatever the parameters. -/
theorem endpointOf_ctl (s : State) : endpointOf (epSelect .ctl s).params (epSelect .ctl s).sel = some .ctl :=
  endpointOf_zero _

@[simp] theorem endpointOf_epSelect_ctl (s : State) : endpointOf s.params (EpId.ctl.number s.params) = some .ctl :=
  endpointOf_zero _

/-! ## Data primitives (R38 to R42) -/

section
variable {s : State} {e : EpId} (h : endpointOf s.params s.sel = some e)
include h

theorem epAvail_eq : epAvail s = .ok (.ofNat 8 (s.ep e).outBuf.length) s := by
  simp [epAvail, selected_of h]

theorem epReadByte_empty (hb : (s.ep e).outBuf = []) : epReadByte s = raise .invariantViolation s := by
  simp [epReadByte, selected_of h, hb]

theorem epReadByte_cons {b : Byte} {rest : List Byte} (hb : (s.ep e).outBuf = b :: rest) :
    epReadByte s = .ok b (s.setEp e { s.ep e with outBuf := rest }) := by
  simp [epReadByte, selected_of h, hb]

theorem epWriteByte_busy (v : Byte) (ht : (s.ep e).txrdy = false) :
    epWriteByte v s = raise .invariantViolation s := by
  simp [epWriteByte, selected_of h, ht]

theorem epWriteByte_full (v : Byte) (hl : (s.ep e).inBuf.length = e.size) :
    epWriteByte v s = raise .invariantViolation s := by
  simp [epWriteByte, selected_of h, hl]

theorem epWriteByte_ok (v : Byte) (ht : (s.ep e).txrdy = true) (hl : (s.ep e).inBuf.length ≠ e.size) :
    epWriteByte v s = .ok () (s.setEp e { s.ep e with inBuf := (s.ep e).inBuf ++ [v] }) := by
  simp [epWriteByte, selected_of h, ht, hl]

/-! ## Flag primitives (R43 to R47) -/

theorem epFlags_eq : epFlags s = .ok (flagsOf e (s.ep e)) s := by
  simp [epFlags, selected_of h]

theorem epClearSetup_eq : epClearSetup s = .ok () (s.setEp e { s.ep e with rxstp := false, outBuf := [] }) := by
  simp [epClearSetup, selected_of h]

theorem epRelease_eq : epRelease s = .ok () (s.setEp e { s.ep e with rxout := false, outBuf := [] }) := by
  simp [epRelease, selected_of h]

theorem epCommit_eq : epCommit s = .ok () (s.setEp e (s.ep e).commit) := by
  simp [epCommit, selected_of h]

theorem epStall_eq : epStall s = .ok () (s.setEp e { s.ep e with stall := true }) := by
  simp [epStall, selected_of h]

end

theorem commit_ready {x : Endpoint} (h : x.txrdy = true) :
    x.commit = { x with inQ := some x.inBuf, inBuf := [], txrdy := false } := by
  simp [Endpoint.commit, h]

theorem commit_busy {x : Endpoint} (h : x.txrdy = false) : x.commit = x := by
  simp [Endpoint.commit, h]

/-- Writing a string that fits appends it to the IN bank (R41). -/
theorem writeBytes_ok (bs : List Byte) : ∀ {s : State} {e : EpId}, endpointOf s.params s.sel = some e →
    (s.ep e).txrdy = true → (s.ep e).inBuf.length + bs.length ≤ e.size →
    writeBytes bs s = .ok () (s.setEp e { s.ep e with inBuf := (s.ep e).inBuf ++ bs }) := by
  induction bs with
  | nil => intro s e _ _ _; simp only [writeBytes, List.append_nil]; exact congrArg _ (setEp_ep s e).symm
  | cons b bs ih =>
    intro s e h ht hl
    simp only [List.length_cons] at hl
    rw [writeBytes, epWriteByte_ok h b ht (by omega), bind_ok, ih (e := e)]
    · simp
    · simpa using h
    · simpa using ht
    · simp only [ep_setEp_same, List.length_append, List.length_cons, List.length_nil]; omega

/-- Writing a slice of a response that fits appends it to the IN bank (R80). -/
theorem writeSlice_ok (src : List Byte) (n : Nat) : ∀ {start : Nat} {s : State} {e : EpId},
    endpointOf s.params s.sel = some e → (s.ep e).txrdy = true → (s.ep e).inBuf.length + n ≤ e.size →
    start + n ≤ src.length →
    writeSlice src start n s
      = .ok () (s.setEp e { s.ep e with inBuf := (s.ep e).inBuf ++ (src.drop start).take n }) := by
  induction n with
  | zero => intro start s e _ _ _ _; simp only [writeSlice, List.take_zero, List.append_nil]; exact congrArg _ (setEp_ep s e).symm
  | succ n ih =>
    intro start s e h ht hl hs
    have hlt : start < src.length := by omega
    rw [writeSlice, List.getElem?_eq_getElem hlt]
    dsimp only
    rw [epWriteByte_ok h _ ht (by omega), bind_ok, ih (e := e)]
    · simp only [ep_setEp_same, setEp_setEp, List.append_assoc, List.singleton_append]
      rw [← List.take_succ_cons, List.getElem_cons_drop]
    · simpa using h
    · simpa using ht
    · simp only [ep_setEp_same, List.length_append, List.length_cons, List.length_nil]; omega
    · omega

/-! ## EpConfigure (R36) -/

/-- A draw answers a Bool and touches nothing but the model's own two fields. -/
theorem drawConfigOk_cases (s : State) :
    (∃ b rest, s.cfgAnswers = b :: rest ∧ drawConfigOk s = (b, { s with cfgAnswers := rest })) ∨
    (s.cfgAnswers = [] ∧
      drawConfigOk s = (Config.epConfigOk s.cfgDraws, { s with cfgDraws := s.cfgDraws + 1 })) := by
  unfold drawConfigOk
  cases h : s.cfgAnswers with
  | nil => exact .inr ⟨rfl, rfl⟩
  | cons b rest => exact .inl ⟨b, rest, rfl, rfl⟩

theorem epConfigureOrRaise_eq (e : EpId) (k : EpKind) (n : Nat) (s : State) :
    epConfigureOrRaise e k n s =
      if (drawConfigOk s).1 then .ok () ((drawConfigOk s).2.setEp e (.configured k))
      else raise .endpointConfig (drawConfigOk s).2 := by
  unfold epConfigureOrRaise epConfigure
  cases h : (drawConfigOk s).1 <;> simp [h]

/-! ## Paths (R78, R82, R84) and the capture (R76) -/

theorem commitStatus_eq (s : State) :
    commitStatus s = .ok () { s with sel := 0, ep0 := s.ep0.commit } := by
  rw [commitStatus, epCommit_eq (endpointOf_ctl s)]; rfl

theorem controlWritePath_eq (s : State) :
    controlWritePath s = .ok () { s with sel := 0, ep0 := s.ep0.commit, phase := .bulkOut } := by
  rw [controlWritePath, commitStatus_eq]; rfl

theorem addressPath_eq (s : State) :
    addressPath s = .ok () { s with sel := 0, ep0 := s.ep0.commit, phase := .addrWait } := by
  rw [addressPath, commitStatus_eq]; rfl

theorem stallPath_eq (s : State) :
    stallPath s = .ok () { s with sel := 0, ep0 := { s.ep0 with stall := true }, phase := .bulkOut } := by
  rw [stallPath, epStall_eq (endpointOf_ctl s)]; rfl

/-- The state after the capture's own writes, before the handler runs (R76). -/
def capturedState (q : SetupRequest) (s : State) : State :=
  { s with sel := 0, setup := some q, ep0 := { s.ep0 with rxstp := false, outBuf := [] } }

theorem serve_eq (q : SetupRequest) (handler : State → Res Reply) (s : State) :
    serve q handler s = (handler (capturedState q s)).bind fun r t => controlPath q r t := by
  rw [serve, epClearSetup_eq (e := .ctl) (by exact endpointOf_zero _)]; rfl

@[simp] theorem request_dir (f : Fields) (c : Byte) : dirOf (f.request c).bmRequestType = f.dir := by
  obtain ⟨d, t, r, -, -, -⟩ := f
  change dirOf (Fields.bmRequestType ⟨d, t, r, 0, 0, 0⟩) = d
  cases d <;> cases t <;> revert r <;> decide

/-! ## The relay (R114) -/

/-- Reading and classing a whole bank of bytes (R114): it never raises, the bank is empty after it, and the
relay and the serial sink have seen every byte in order. -/
theorem relayBytes_ok (bs : List Byte) : ∀ {s : State} {e : EpId}, endpointOf s.params s.sel = some e →
    (s.ep e).outBuf = bs →
    relayBytes bs.length s
      = .ok () (bs.foldl (fun t b => relayByte b t) (s.setEp e { s.ep e with outBuf := [] })) := by
  have comm : ∀ (b : Byte) (s : State) (e : EpId) (x : Endpoint),
      (relayByte b s).setEp e x = relayByte b (s.setEp e x) := by
    intro b s e x
    unfold relayByte relayForward classify relayLast relayTrigger relayEcho emitSerial
    split <;> cases e <;> simp only [State.setEp] <;> split <;> rename_i h <;> simp_all
  have same : ∀ (b : Byte) (s : State) (e : EpId), (relayByte b s).ep e = s.ep e := by
    intro b s e
    unfold relayByte relayForward classify relayLast relayTrigger relayEcho emitSerial
    cases e <;> split <;> split <;> rfl
  have keep : ∀ (b : Byte) (s : State), (relayByte b s).params = s.params ∧ (relayByte b s).sel = s.sel := by
    intro b s
    unfold relayByte relayForward classify relayLast relayTrigger relayEcho emitSerial
    split <;> split <;> exact ⟨rfl, rfl⟩
  induction bs with
  | nil =>
    intro s e _ hb
    have : s.setEp e { s.ep e with outBuf := [] } = s := by
      conv_rhs => rw [← setEp_ep s e]
      rw [← hb]
    simp [relayBytes, this]
  | cons b bs ih =>
    intro s e h hb
    rw [List.length_cons, relayBytes, epReadByte_cons h hb, bind_ok, ih (e := e)]
    · simp only [same, ep_setEp_same, comm, setEp_setEp, List.foldl_cons]
    · simpa [keep] using h
    · simp [same]

end Sys2Proof.Machine
end

