-- ==== Sys2Proof/Laws/PerInstr.lean ====
section
/-! SUPPORT. The family `EncodeLength`: how many bytes an instruction's encoding has, one lemma per constructor
(30_encoding.md R60, R69). -/

namespace Sys2Proof.Laws.EncodeLength

/-- An encoding has eight bytes if the instruction is a request (R60) and one if it is a bulk byte (R69); any other
instruction has none. -/
def Statement (i : Instr) : Prop :=
  ∀ p : Params, (encode p i).map List.length
    = if (i.request p).isSome then some 8 else if i.bulkByte.isSome then some 1 else none

theorem getStatus (f : Fields) : Statement (.getStatus f) := fun _ => rfl
theorem clearFeature (f : Fields) : Statement (.clearFeature f) := fun _ => rfl
theorem setFeature (f : Fields) : Statement (.setFeature f) := fun _ => rfl
theorem setAddress (f : Fields) : Statement (.setAddress f) := fun _ => rfl
theorem getDescriptor (f : Fields) : Statement (.getDescriptor f) := fun _ => rfl
theorem setDescriptor (f : Fields) : Statement (.setDescriptor f) := fun _ => rfl
theorem getConfiguration (f : Fields) : Statement (.getConfiguration f) := fun _ => rfl
theorem setConfiguration (f : Fields) : Statement (.setConfiguration f) := fun _ => rfl
theorem getInterface (f : Fields) : Statement (.getInterface f) := fun _ => rfl
theorem setInterface (f : Fields) : Statement (.setInterface f) := fun _ => rfl
theorem synchFrame (f : Fields) : Statement (.synchFrame f) := fun _ => rfl
theorem stdOther (code : Byte) (f : Fields) : Statement (.stdOther code f) := fun _ => rfl
theorem vReset (f : Fields) : Statement (.vReset f) := fun _ => rfl
theorem vModemCtrl (f : Fields) : Statement (.vModemCtrl f) := fun _ => rfl
theorem vSetFlowCtrl (f : Fields) : Statement (.vSetFlowCtrl f) := fun _ => rfl
theorem vSetBaudRate (f : Fields) : Statement (.vSetBaudRate f) := fun _ => rfl
theorem vSetData (f : Fields) : Statement (.vSetData f) := fun _ => rfl
theorem vSetLatencyTimer (f : Fields) : Statement (.vSetLatencyTimer f) := fun _ => rfl
theorem vGetModemStatus (f : Fields) : Statement (.vGetModemStatus f) := fun _ => rfl
theorem vGetLatencyTimer (f : Fields) : Statement (.vGetLatencyTimer f) := fun _ => rfl
theorem vReadEeprom (f : Fields) : Statement (.vReadEeprom f) := fun _ => rfl
theorem vOther (code : Byte) (f : Fields) : Statement (.vOther code f) := fun _ => rfl
theorem classType (code : Byte) (f : Fields) : Statement (.classType code f) := fun _ => rfl
theorem reservedType (code : Byte) (f : Fields) : Statement (.reservedType code f) := fun _ => rfl
theorem bulkTrigger : Statement .bulkTrigger := fun _ => rfl
theorem bulkEcho (b : Byte) : Statement (.bulkEcho b) := fun _ => rfl
theorem ctlPoll : Statement .ctlPoll := fun _ => rfl
theorem setupCapture : Statement .setupCapture := fun _ => rfl
theorem inData (src : List Byte) (total : Word) (sent : Word) : Statement (.inData src total sent) := fun _ => rfl
theorem inStatus : Statement .inStatus := fun _ => rfl
theorem controlWrite : Statement .controlWrite := fun _ => rfl
theorem addrWait : Statement .addrWait := fun _ => rfl
theorem stall : Statement .stall := fun _ => rfl
theorem bulkOut : Statement .bulkOut := fun _ => rfl
theorem serialForward (b : Byte) : Statement (.serialForward b) := fun _ => rfl
theorem bulkIn : Statement .bulkIn := fun _ => rfl
theorem hostSetup (a : Addr) (p : Vector Byte 8) : Statement (.hostSetup a p) := fun _ => rfl
theorem hostIn (a : Addr) (e : InPipe) : Statement (.hostIn a e) := fun _ => rfl
theorem hostOut (a : Addr) (e : OutPipe) (p : List Byte) : Statement (.hostOut a e p) := fun _ => rfl
theorem busReset : Statement .busReset := fun _ => rfl
theorem vbusOn : Statement .vbusOn := fun _ => rfl
theorem vbusOff : Statement .vbusOff := fun _ => rfl
theorem serialRx (b : Byte) : Statement (.serialRx b) := fun _ => rfl

end Sys2Proof.Laws.EncodeLength
end

