-- ==== Sys2Proof/Laws/Script.lean ====
section
/-! SUPPORT. The operations of the script notation (30_encoding.md R72): their fields, and what a step inside a
program and a draw inside one can be. -/

namespace Sys2Proof.Machine

/-! ## grantDraws -/

@[simp] theorem grantDraws_params (s : State) : (grantDraws s).params = s.params := rfl
@[simp] theorem grantDraws_phase (s : State) : (grantDraws s).phase = s.phase := rfl
@[simp] theorem grantDraws_setup (s : State) : (grantDraws s).setup = s.setup := rfl
@[simp] theorem grantDraws_cfg (s : State) : (grantDraws s).cfg = s.cfg := rfl
@[simp] theorem grantDraws_pendAddr (s : State) : (grantDraws s).pendAddr = s.pendAddr := rfl
@[simp] theorem grantDraws_conn (s : State) : (grantDraws s).conn = s.conn := rfl
@[simp] theorem grantDraws_relay (s : State) : (grantDraws s).relay = s.relay := rfl
@[simp] theorem grantDraws_fault (s : State) : (grantDraws s).fault = s.fault := rfl
@[simp] theorem grantDraws_wire (s : State) : (grantDraws s).wire = s.wire := rfl
@[simp] theorem grantDraws_diag (s : State) : (grantDraws s).diag = s.diag := rfl
@[simp] theorem grantDraws_serialOut (s : State) : (grantDraws s).serialOut = s.serialOut := rfl
@[simp] theorem grantDraws_sel (s : State) : (grantDraws s).sel = s.sel := rfl
@[simp] theorem grantDraws_ep0 (s : State) : (grantDraws s).ep0 = s.ep0 := rfl
@[simp] theorem grantDraws_epIn (s : State) : (grantDraws s).epIn = s.epIn := rfl
@[simp] theorem grantDraws_epOut (s : State) : (grantDraws s).epOut = s.epOut := rfl
@[simp] theorem grantDraws_devAddr (s : State) : (grantDraws s).devAddr = s.devAddr := rfl
@[simp] theorem grantDraws_addrEn (s : State) : (grantDraws s).addrEn = s.addrEn := rfl
@[simp] theorem grantDraws_vbus (s : State) : (grantDraws s).vbus = s.vbus := rfl
@[simp] theorem grantDraws_sched (s : State) : (grantDraws s).sched = s.sched := rfl
@[simp] theorem grantDraws_cfgAnswers (s : State) :
    (grantDraws s).cfgAnswers = s.cfgAnswers ++ List.replicate drawsPerStep true := rfl
@[simp] theorem grantDraws_cfgDraws (s : State) : (grantDraws s).cfgDraws = s.cfgDraws := rfl

/-! ## withdrawDraws -/

@[simp] theorem withdrawDraws_params (s : State) : (withdrawDraws s).params = s.params := rfl
@[simp] theorem withdrawDraws_phase (s : State) : (withdrawDraws s).phase = s.phase := rfl
@[simp] theorem withdrawDraws_setup (s : State) : (withdrawDraws s).setup = s.setup := rfl
@[simp] theorem withdrawDraws_cfg (s : State) : (withdrawDraws s).cfg = s.cfg := rfl
@[simp] theorem withdrawDraws_pendAddr (s : State) : (withdrawDraws s).pendAddr = s.pendAddr := rfl
@[simp] theorem withdrawDraws_conn (s : State) : (withdrawDraws s).conn = s.conn := rfl
@[simp] theorem withdrawDraws_relay (s : State) : (withdrawDraws s).relay = s.relay := rfl
@[simp] theorem withdrawDraws_fault (s : State) : (withdrawDraws s).fault = s.fault := rfl
@[simp] theorem withdrawDraws_wire (s : State) : (withdrawDraws s).wire = s.wire := rfl
@[simp] theorem withdrawDraws_diag (s : State) : (withdrawDraws s).diag = s.diag := rfl
@[simp] theorem withdrawDraws_serialOut (s : State) : (withdrawDraws s).serialOut = s.serialOut := rfl
@[simp] theorem withdrawDraws_sel (s : State) : (withdrawDraws s).sel = s.sel := rfl
@[simp] theorem withdrawDraws_ep0 (s : State) : (withdrawDraws s).ep0 = s.ep0 := rfl
@[simp] theorem withdrawDraws_epIn (s : State) : (withdrawDraws s).epIn = s.epIn := rfl
@[simp] theorem withdrawDraws_epOut (s : State) : (withdrawDraws s).epOut = s.epOut := rfl
@[simp] theorem withdrawDraws_devAddr (s : State) : (withdrawDraws s).devAddr = s.devAddr := rfl
@[simp] theorem withdrawDraws_addrEn (s : State) : (withdrawDraws s).addrEn = s.addrEn := rfl
@[simp] theorem withdrawDraws_vbus (s : State) : (withdrawDraws s).vbus = s.vbus := rfl
@[simp] theorem withdrawDraws_sched (s : State) : (withdrawDraws s).sched = s.sched := rfl
@[simp] theorem withdrawDraws_cfgAnswers (s : State) :
    (withdrawDraws s).cfgAnswers = s.cfgAnswers.take (s.cfgAnswers.length - drawsPerStep) := rfl
@[simp] theorem withdrawDraws_cfgDraws (s : State) : (withdrawDraws s).cfgDraws = s.cfgDraws := rfl

/-! ## The start of a program -/

@[simp] theorem start_target (answers : List Bool) (s : State) : (Session.start answers s).target = 0 := rfl
@[simp] theorem start_machine (answers : List Bool) (s : State) :
    (Session.start answers s).machine = { s with cfgAnswers := answers } := rfl

/-! ## A step inside a program -/

/-- What a step inside a program can be: a step with the granted answers, which are then taken back. -/
theorem stepAs_next {t : Turn} {s u : State} (h : stepAs t s = .next u) :
    ∃ v, step (grantDraws { s with sched := [t] }) = .next v ∧ u = withdrawDraws v := by
  unfold stepAs at h
  split at h
  · rename_i v hv; exact ⟨v, hv, by simpa using h.symm⟩
  · cases h
  · cases h

/-- A draw inside a program takes the program's next answer, and true when it says none (R72); the free value is not
drawn while an answer is granted. -/
theorem drawConfigOk_granted {s : State} {said : List Bool} {n : Nat}
    (h : s.cfgAnswers = said ++ List.replicate (n + 1) true) :
    drawConfigOk s = (said.headD true,
      { s with cfgAnswers := said.tail ++ List.replicate (if said = [] then n else n + 1) true }) := by
  cases said <;> simp [drawConfigOk, h, List.replicate_succ]

end Sys2Proof.Machine
end

