-- ==== Sys2Proof/Tests/Slice0.lean ====
section
/-! SUPPORT. Tests: ill-formed terms that WellFormed refuses, words written out from the spec's encodings, one
step of each instruction with the result spec/95_test_vectors.md gives, and a witness for the hypotheses of each
statement. -/

namespace Sys2Proof.Tests

open Sys2Proof.Machine Sys2Proof.Claims Sys2Proof.Safety

/-! ## Helpers -/

/-- The state of a `next` outcome. -/
def nextState : Host.Outcome State Fault Refusal → Option State
  | .next t => some t
  | .fault _ => none
  | .refused _ => none

/-- The refusal of an outcome. -/
def refusal : Host.Outcome State Fault Refusal → Option Refusal
  | .refused r => some r
  | .next _ => none
  | .fault _ => none

/-- SB of 95_test_vectors.md, with every configuration answered ok and an empty trace. -/
def booted : State := { State.reset with vbus := true, conn := .enumerated, cfgAnswers := [true, true] }

/-- A SETUP packet in endpoint 0's bank. -/
def withSetup (bytes : List Byte) (s : State) : State :=
  { s with ep0 := { s.ep0 with rxstp := true, outBuf := bytes } }

/-- The step of one turn. -/
def stepOn (t : Turn) (s : State) : Option State := nextState (step { s with sched := [t] })

/-- The sequencer's step on a SETUP packet, from `booted`. -/
def served1 (bytes : List Byte) : Option State := stepOn .sequencer (withSetup bytes booted)

/-- `Bit6` routing (R63). -/
def bit6 : Params := { Params.p0 with typeRouting := .bit6 }

/-- Fields of a request with zero operands. -/
def fieldsOf (d : Dir) (t : ReqType) (r : BitVec 5) : Fields := ⟨d, t, r, 0, 0, 0⟩

def stdF : Fields := fieldsOf .deviceToHost .standard 0
def vOutF : Fields := fieldsOf .hostToDevice .vendor 0
def vInF : Fields := fieldsOf .deviceToHost .vendor 0

/-- The rows that need a standard type. -/
def stdRows (f : Fields) : List Instr :=
  [.getStatus f, .clearFeature f, .setFeature f, .setAddress f, .getDescriptor f, .setDescriptor f,
   .getConfiguration f, .setConfiguration f, .getInterface f, .setInterface f, .synchFrame f, .stdOther 0x02 f]

/-- The vendor rows of direction 0. -/
def vendorOutRows (f : Fields) : List Instr :=
  [.vReset f, .vModemCtrl f, .vSetFlowCtrl f, .vSetBaudRate f, .vSetData f, .vSetLatencyTimer f]

/-- The vendor rows of direction 1. -/
def vendorInRows (f : Fields) : List Instr := [.vGetModemStatus f, .vGetLatencyTimer f, .vReadEeprom f]

/-! ## WellFormed: each check refuses an ill-formed term (R10, R63 to R65, R85, R88, R130) -/

theorem test_wf_p0 : Params.p0.wf = true ∧ bit6.wf = true := by decide
theorem test_wf_same_endpoints : { Params.p0 with epOut := 1 }.wf = false := by decide
theorem test_wf_zero_in : { Params.p0 with epIn := 0 }.wf = false := by decide
theorem test_wf_zero_out : { Params.p0 with epOut := 0 }.wf = false := by decide
theorem test_wf_banner :
    { Params.p0 with banner := List.replicate 63 0 }.wf = false ∧
    { Params.p0 with banner := List.replicate 62 0 }.wf = true := by decide
theorem test_wf_product :
    { Params.p0 with strProduct := List.replicate 127 0 }.wf = false ∧
    { Params.p0 with strProduct := List.replicate 126 0 }.wf = true := by decide +kernel
theorem test_wf_serial : { Params.p0 with strSerial := List.replicate 127 0 }.wf = false := by decide +kernel
theorem test_wf_codes_out :
    { Params.p0 with vendorCodes := { VendorCodes.p0 with setData := 0x00 } }.wf = false := by decide
theorem test_wf_codes_in :
    { Params.p0 with vendorCodes := { VendorCodes.p0 with readEeprom := 0x05 } }.wf = false := by decide
theorem test_wf_std_rows :
    (stdRows stdF).all (wellFormed .p0) = true ∧
    (stdRows { stdF with typ := .vendor }).any (wellFormed .p0) = false ∧
    (stdRows { stdF with typ := .cls }).any (wellFormed .p0) = false ∧
    (stdRows { stdF with typ := .cls }).all (wellFormed bit6) = true := by decide
theorem test_wf_std_other : wellFormed .p0 (.stdOther 0x0C stdF) = false := by decide
theorem test_wf_vendor_out_rows :
    (vendorOutRows vOutF).all (wellFormed .p0) = true ∧
    (vendorOutRows vInF).any (wellFormed .p0) = false ∧
    (vendorOutRows { vOutF with typ := .reserved }).any (wellFormed .p0) = false := by decide
theorem test_wf_vendor_in_rows :
    (vendorInRows vInF).all (wellFormed .p0) = true ∧
    (vendorInRows vOutF).any (wellFormed .p0) = false ∧
    (vendorInRows { vInF with typ := .standard }).any (wellFormed .p0) = false := by decide
theorem test_wf_vendor_other :
    wellFormed .p0 (.vOther 0x05 vInF) = false ∧ wellFormed .p0 (.vOther 0x05 vOutF) = true ∧
    wellFormed .p0 (.vOther 0x05 { vOutF with typ := .cls }) = false := by decide
theorem test_wf_class_type :
    wellFormed .p0 (.classType 0x01 { stdF with typ := .cls }) = true ∧
    wellFormed .p0 (.classType 0x01 stdF) = false ∧
    wellFormed bit6 (.classType 0x01 { stdF with typ := .cls }) = false := by decide
theorem test_wf_reserved_type :
    wellFormed .p0 (.reservedType 0x01 { stdF with typ := .reserved }) = true ∧
    wellFormed .p0 (.reservedType 0x01 stdF) = false ∧
    wellFormed bit6 (.reservedType 0x01 { stdF with typ := .reserved }) = false := by decide
theorem test_wf_bulk_echo : wellFormed .p0 (.bulkEcho 0x61) = false ∧ wellFormed .p0 (.bulkEcho 0x62) = true := by decide
theorem test_wf_in_data :
    wellFormed .p0 (.inData [1] 1 2) = false ∧ wellFormed .p0 (.inData [1] 2 0) = false ∧
    wellFormed .p0 (.inData [1] 1 1) = true := by decide
theorem test_wf_host_out :
    wellFormed .p0 (.hostOut 0 .ctl (List.replicate 65 0)) = false ∧
    wellFormed .p0 (.hostOut 0 .bulk (List.replicate 65 0)) = false ∧
    wellFormed .p0 (.hostOut 0 .bulk (List.replicate 64 0)) = true := by decide
theorem test_step_refuses_params :
    refusal (step { State.reset with params := { Params.p0 with epIn := 0 } }) = some .illFormedParams := by decide
theorem test_step_refuses_event :
    refusal (step { booted with sched := [.event (.hostOut 0 .ctl (List.replicate 65 0))] })
      = some .illFormedEvent := by decide

/-! ## Decoding: words written out from R60, R61, R64, R65, R69 -/

theorem test_decode_get_status : decodeSetup .p0 [0x82, 0x00, 0x00, 0x00, 0x81, 0x00, 0x02, 0x00]
    = .ok (.getStatus ⟨.deviceToHost, .standard, 2, 0x0000, 0x0081, 0x0002⟩) := by decide
theorem test_decode_clear_feature : decodeSetup .p0 [0x02, 0x01, 0x00, 0x00, 0x81, 0x00, 0x00, 0x00]
    = .ok (.clearFeature ⟨.hostToDevice, .standard, 2, 0x0000, 0x0081, 0x0000⟩) := by decide
theorem test_decode_set_feature : decodeSetup .p0 [0x00, 0x03, 0x01, 0x00, 0x00, 0x00, 0x00, 0x00]
    = .ok (.setFeature ⟨.hostToDevice, .standard, 0, 0x0001, 0x0000, 0x0000⟩) := by decide
theorem test_decode_set_address : decodeSetup .p0 [0x00, 0x05, 0x85, 0x00, 0x00, 0x00, 0x00, 0x00]
    = .ok (.setAddress ⟨.hostToDevice, .standard, 0, 0x0085, 0x0000, 0x0000⟩) := by decide
theorem test_decode_get_descriptor : decodeSetup .p0 [0x80, 0x06, 0x01, 0x03, 0x34, 0x12, 0xFF, 0x00]
    = .ok (.getDescriptor ⟨.deviceToHost, .standard, 0, 0x0301, 0x1234, 0x00FF⟩) := by decide
theorem test_decode_set_descriptor : decodeSetup .p0 [0x00, 0x07, 0x00, 0x01, 0x00, 0x00, 0x12, 0x00]
    = .ok (.setDescriptor ⟨.hostToDevice, .standard, 0, 0x0100, 0x0000, 0x0012⟩) := by decide
theorem test_decode_get_configuration : decodeSetup .p0 [0x80, 0x08, 0x00, 0x00, 0x00, 0x00, 0x01, 0x00]
    = .ok (.getConfiguration ⟨.deviceToHost, .standard, 0, 0x0000, 0x0000, 0x0001⟩) := by decide
theorem test_decode_set_configuration : decodeSetup .p0 [0x00, 0x09, 0x07, 0x01, 0x00, 0x00, 0x00, 0x00]
    = .ok (.setConfiguration ⟨.hostToDevice, .standard, 0, 0x0107, 0x0000, 0x0000⟩) := by decide
theorem test_decode_get_interface : decodeSetup .p0 [0x81, 0x0A, 0x00, 0x00, 0x00, 0x00, 0x01, 0x00]
    = .ok (.getInterface ⟨.deviceToHost, .standard, 1, 0x0000, 0x0000, 0x0001⟩) := by decide
theorem test_decode_set_interface : decodeSetup .p0 [0x01, 0x0B, 0x01, 0x00, 0x00, 0x00, 0x00, 0x00]
    = .ok (.setInterface ⟨.hostToDevice, .standard, 1, 0x0001, 0x0000, 0x0000⟩) := by decide
theorem test_decode_synch_frame : decodeSetup .p0 [0x82, 0x0C, 0x00, 0x00, 0x81, 0x00, 0x02, 0x00]
    = .ok (.synchFrame ⟨.deviceToHost, .standard, 2, 0x0000, 0x0081, 0x0002⟩) := by decide
theorem test_decode_std_other : decodeSetup .p0 [0x80, 0xFF, 0x00, 0x00, 0x00, 0x00, 0x01, 0x00]
    = .ok (.stdOther 0xFF ⟨.deviceToHost, .standard, 0, 0x0000, 0x0000, 0x0001⟩) := by decide
theorem test_decode_v_reset : decodeSetup .p0 [0x40, 0x00, 0x00, 0x00, 0x00, 0x00, 0x00, 0x00]
    = .ok (.vReset ⟨.hostToDevice, .vendor, 0, 0x0000, 0x0000, 0x0000⟩) := by decide
theorem test_decode_v_modem_ctrl : decodeSetup .p0 [0x40, 0x01, 0x03, 0x03, 0x00, 0x00, 0x00, 0x00]
    = .ok (.vModemCtrl ⟨.hostToDevice, .vendor, 0, 0x0303, 0x0000, 0x0000⟩) := by decide
theorem test_decode_v_set_flow_ctrl : decodeSetup .p0 [0x40, 0x02, 0x00, 0x00, 0x00, 0x01, 0x00, 0x00]
    = .ok (.vSetFlowCtrl ⟨.hostToDevice, .vendor, 0, 0x0000, 0x0100, 0x0000⟩) := by decide
theorem test_decode_v_set_baud_rate : decodeSetup .p0 [0x41, 0x03, 0x01, 0x00, 0x01, 0x00, 0x00, 0x00]
    = .ok (.vSetBaudRate ⟨.hostToDevice, .vendor, 1, 0x0001, 0x0001, 0x0000⟩) := by decide
theorem test_decode_v_set_data : decodeSetup .p0 [0x40, 0x04, 0x08, 0x00, 0x00, 0x00, 0x00, 0x00]
    = .ok (.vSetData ⟨.hostToDevice, .vendor, 0, 0x0008, 0x0000, 0x0000⟩) := by decide
theorem test_decode_v_set_latency_timer : decodeSetup .p0 [0x40, 0x09, 0x01, 0x00, 0x00, 0x00, 0x00, 0x00]
    = .ok (.vSetLatencyTimer ⟨.hostToDevice, .vendor, 0, 0x0001, 0x0000, 0x0000⟩) := by decide
theorem test_decode_v_get_modem_status : decodeSetup .p0 [0xC0, 0x05, 0x00, 0x00, 0x00, 0x00, 0x00, 0x00]
    = .ok (.vGetModemStatus ⟨.deviceToHost, .vendor, 0, 0x0000, 0x0000, 0x0000⟩) := by decide
theorem test_decode_v_get_latency_timer : decodeSetup .p0 [0xC0, 0x0A, 0x00, 0x00, 0x00, 0x00, 0x08, 0x00]
    = .ok (.vGetLatencyTimer ⟨.deviceToHost, .vendor, 0, 0x0000, 0x0000, 0x0008⟩) := by decide
theorem test_decode_v_read_eeprom : decodeSetup .p0 [0xC0, 0x90, 0x00, 0x00, 0x0A, 0x00, 0x02, 0x00]
    = .ok (.vReadEeprom ⟨.deviceToHost, .vendor, 0, 0x0000, 0x000A, 0x0002⟩) := by decide
theorem test_decode_v_other :
    decodeSetup .p0 [0xC0, 0x00, 0x00, 0x00, 0x00, 0x00, 0x01, 0x00]
      = .ok (.vOther 0x00 ⟨.deviceToHost, .vendor, 0, 0x0000, 0x0000, 0x0001⟩) ∧
    decodeSetup .p0 [0x40, 0x0B, 0xFF, 0x00, 0x00, 0x00, 0x00, 0x00]
      = .ok (.vOther 0x0B ⟨.hostToDevice, .vendor, 0, 0x00FF, 0x0000, 0x0000⟩) := by decide
theorem test_decode_class_type :
    decodeSetup .p0 [0xA1, 0x01, 0x00, 0x00, 0x00, 0x00, 0x07, 0x00]
      = .ok (.classType 0x01 ⟨.deviceToHost, .cls, 1, 0x0000, 0x0000, 0x0007⟩) ∧
    decodeSetup bit6 [0xA1, 0x01, 0x00, 0x00, 0x00, 0x00, 0x07, 0x00]
      = .ok (.clearFeature ⟨.deviceToHost, .cls, 1, 0x0000, 0x0000, 0x0007⟩) := by decide
theorem test_decode_reserved_type :
    decodeSetup .p0 [0x60, 0x00, 0x00, 0x00, 0x00, 0x00, 0x00, 0x00]
      = .ok (.reservedType 0x00 ⟨.hostToDevice, .reserved, 0, 0x0000, 0x0000, 0x0000⟩) ∧
    decodeSetup bit6 [0x60, 0x00, 0x00, 0x00, 0x00, 0x00, 0x00, 0x00]
      = .ok (.vReset ⟨.hostToDevice, .reserved, 0, 0x0000, 0x0000, 0x0000⟩) := by decide
theorem test_decode_bulk_bytes :
    decode .p0 [0x61] = .ok .bulkTrigger ∧ decode .p0 [0x41] = .ok (.bulkEcho 0x41) ∧
    decode .p0 [0x60] = .ok (.bulkEcho 0x60) ∧ decode .p0 [0xE1] = .ok (.bulkEcho 0xE1) := by decide
theorem test_decode_refuses_seven_bytes :
    decodeSetup .p0 [0x80, 0x06, 0x00, 0x01, 0x00, 0x00, 0x12] = .error .notEightBytes := by decide
/-- K = 0x8006 in bits 15..0 and wLength = 0x12 in bits 63..48 (R62, opcode_table.json). -/
theorem test_decode_table_word :
    decodeTableWord 16 0x8006 = some (.getDescriptor ⟨.deviceToHost, .standard, 0, 0, 0, 0⟩) ∧
    decodeTableWord 64 0x0012000001008006
      = some (.getDescriptor ⟨.deviceToHost, .standard, 0, 0x0100, 0, 0x0012⟩) ∧
    decodeTableWord 8 0x61 = some .bulkTrigger := by decide
theorem test_table_priority :
    tableLookup .p0 0x8006 = some "GET_DESCRIPTOR" ∧ tableLookup .p0 0xC000 = some "V_OTHER" ∧
    tableLookup .p0 0xA101 = some "CLASS_TYPE" ∧ tableLookup bit6 0xA101 = some "CLEAR_FEATURE" ∧
    tableLookup bit6 0xE090 = some "V_READ_EEPROM" := by decide
theorem test_fetch_word_runs_request :
    nextState (step (State.reset.withFetchWord 16 0x8000))
      = nextState (exec (.getStatus stdF) (State.reset.withFetchWord 16 0x8000)) := by rfl

/-! ## One step of each request row (95_test_vectors.md 2.4, 2.6, V1) -/

theorem test_get_status :
    (served1 [0x80, 0x00, 0x00, 0x00, 0x00, 0x00, 0x02, 0x00]).map (·.phase) = some (.inData [0, 0] 2 0) ∧
    (served1 [0x00, 0x00, 0x00, 0x00, 0x00, 0x00, 0x00, 0x00]).map (·.ep0.stall) = some true := by decide
theorem test_clear_feature : (served1 [0x02, 0x01, 0x00, 0x00, 0x81, 0x00, 0x00, 0x00]).map
    (fun s => (s.ep0.inQ, s.ep0.stall, s.phase)) = some (some [], false, .bulkOut) := by decide
theorem test_set_feature : (served1 [0x00, 0x03, 0x01, 0x00, 0x00, 0x00, 0x00, 0x00]).map
    (fun s => (s.ep0.inQ, s.ep0.stall, s.phase)) = some (some [], false, .bulkOut) := by decide
theorem test_set_address : (served1 [0x00, 0x05, 0x85, 0x00, 0x00, 0x00, 0x00, 0x00]).map
    (fun s => (s.pendAddr, s.phase, s.addrEn, s.ep0.inQ)) = some (some 5, .addrWait, false, some []) := by decide
theorem test_set_address_in : (served1 [0x80, 0x05, 0x05, 0x00, 0x00, 0x00, 0x00, 0x00]).map
    (fun s => (s.pendAddr, s.ep0.stall)) = some (none, true) := by decide
theorem test_get_descriptor : (served1 [0x80, 0x06, 0x00, 0x01, 0x34, 0x12, 0x12, 0x00]).map (·.phase)
    = some (.inData [0x12, 0x01, 0x10, 0x01, 0x00, 0x00, 0x00, 0x40, 0x03, 0x04, 0x01, 0x60, 0x00, 0x06, 0x00,
        0x01, 0x02, 0x01] 18 0) := by decide
theorem test_get_descriptor_unknown :
    (served1 [0x80, 0x06, 0x03, 0x03, 0x00, 0x00, 0xFF, 0x00]).map (·.ep0.stall) = some true := by decide
theorem test_set_descriptor :
    (served1 [0x00, 0x07, 0x00, 0x01, 0x00, 0x00, 0x12, 0x00]).map (·.ep0.stall) = some true := by decide
theorem test_get_configuration :
    (stepOn .sequencer { withSetup [0x80, 0x08, 0x00, 0x00, 0x00, 0x00, 0x01, 0x00] booted with
      cfg := { cfgValue := 7, curAddr := 0 } }).map (·.phase) = some (.inData [7] 1 0) := by decide
theorem test_set_configuration : (served1 [0x00, 0x09, 0x07, 0x01, 0x00, 0x00, 0x00, 0x00]).map
    (fun s => (s.cfg.cfgValue, s.epIn.txrdy, s.epOut.armed, s.ep0.inQ)) = some (7, true, true, some []) := by decide
theorem test_set_configuration_refused :
    (stepOn .sequencer { withSetup [0x00, 0x09, 0x01, 0x00, 0x00, 0x00, 0x00, 0x00] booted with
      cfgAnswers := [true, false] }).map
        (fun s => (s.fault, s.phase, s.epIn.armed, s.epOut.armed, s.diag))
      = some (some .endpointConfig, .halted, true, false, [.haltMarker .endpointConfig]) := by decide
theorem test_get_interface :
    (served1 [0x81, 0x0A, 0x00, 0x00, 0x00, 0x00, 0x01, 0x00]).map (·.ep0.stall) = some true := by decide
theorem test_set_interface : (served1 [0x01, 0x0B, 0x01, 0x00, 0x00, 0x00, 0x00, 0x00]).map
    (fun s => (s.ep0.stall, s.ep0.inQ, s.phase)) = some (true, none, .bulkOut) := by decide
theorem test_synch_frame :
    (served1 [0x82, 0x0C, 0x00, 0x00, 0x81, 0x00, 0x02, 0x00]).map (·.ep0.stall) = some true := by decide
theorem test_std_other :
    (served1 [0x80, 0xFF, 0x00, 0x00, 0x00, 0x00, 0x01, 0x00]).map (·.ep0.stall) = some true := by decide
theorem test_vendor_commands :
    [0x00, 0x01, 0x02, 0x03, 0x04, 0x09].all (fun code : Byte =>
      (served1 [0x40, code, 0x01, 0x00, 0x00, 0x00, 0x00, 0x00]).map
        (fun s => (s.ep0.inQ, s.ep0.stall, s.phase, s.diag)) = some (some [], false, .bulkOut, [])) = true := by decide
theorem test_v_get_modem_status :
    (served1 [0xC0, 0x05, 0x00, 0x00, 0x00, 0x00, 0x00, 0x00]).map (·.phase) = some (.inData [0] 0 0) := by decide
theorem test_v_get_latency_timer :
    (served1 [0xC0, 0x0A, 0x00, 0x00, 0x00, 0x00, 0x08, 0x00]).map (·.phase) = some (.inData [0x10] 1 0) := by decide
theorem test_v_read_eeprom : (served1 [0xC0, 0x90, 0x00, 0x00, 0x00, 0x00, 0x01, 0x00]).map (·.phase)
    = some (.inData [0xFF, 0xFF] 1 0) := by decide
theorem test_v_other : (served1 [0x40, 0x0B, 0xFF, 0x00, 0x00, 0x00, 0x00, 0x00]).map
    (fun s => (s.ep0.inQ, s.diag)) = some (some [], [.unknownVendor 0x40 0x0B]) := by decide
theorem test_v_other_in : (served1 [0xC0, 0x00, 0x00, 0x00, 0x00, 0x00, 0x01, 0x00]).map
    (fun s => (s.phase, s.diag)) = some (.inData [] 0 0, [.unknownVendor 0xC0 0x00]) := by decide
theorem test_class_type :
    (served1 [0xA1, 0x01, 0x00, 0x00, 0x00, 0x00, 0x07, 0x00]).map (·.ep0.stall) = some true := by decide
theorem test_reserved_type :
    (served1 [0x60, 0x00, 0x00, 0x00, 0x00, 0x00, 0x00, 0x00]).map (·.ep0.stall) = some true := by decide

/-! ## One step of each sequencer row (95_test_vectors.md 2.2, 2.3, 2.7) -/

/-- `booted` with both bulk endpoints armed (SC). -/
def configured : State := { booted with epIn := armedEndpoint true, epOut := armedEndpoint false }

/-- 82 bytes, the length of string 1 under PB. -/
def long : List Byte := List.replicate 64 0xAA ++ List.replicate 18 0xBB

theorem test_ctl_poll : (stepOn .sequencer booted).map (·.phase) = some .bulkOut := by decide
theorem test_capture_short_bank :
    (nextState (exec .setupCapture (withSetup [1, 2, 3] booted))).map (·.fault)
      = some (some .invariantViolation) := by decide
theorem test_capture : (nextState (exec .setupCapture (withSetup
    [0x80, 0x06, 0x01, 0x03, 0x34, 0x12, 0xFF, 0x00] booted))).map (fun s => (s.setup, s.ep0.rxstp, s.ep0.outBuf))
      = some (some ⟨0x80, 0x06, 0x0301, 0x1234, 0x00FF⟩, false, []) := by decide
theorem test_in_data_full_packet : (stepOn .sequencer { booted with phase := .inData long 82 0 }).map
    (fun s => (s.ep0.inQ.map List.length, s.ep0.txrdy, s.phase))
      = some (some 64, false, .inData long 82 64) := by decide
theorem test_in_data_last_packet : (stepOn .sequencer { booted with phase := .inData long 82 64 }).map
    (fun s => (s.ep0.inQ, s.phase)) = some (some (List.replicate 18 0xBB), .inStatus) := by decide
theorem test_in_status : (stepOn .sequencer { booted with
    phase := .inStatus, ep0 := { booted.ep0 with rxout := true, outBuf := [0x11, 0x22] } }).map
      (fun s => (s.ep0.rxout, s.ep0.outBuf, s.ep0.inQ, s.phase)) = some (false, [], some [], .bulkOut) := by decide
theorem test_in_status_hold :
    stepOn .sequencer { booted with phase := .inStatus } = some { booted with phase := .inStatus } := by decide
theorem test_control_write : (nextState (exec .controlWrite booted)).map (fun s => (s.ep0.inQ, s.ep0.txrdy, s.phase))
    = some (some [], false, .bulkOut) := by decide
theorem test_addr_wait : (stepOn .sequencer { booted with phase := .addrWait, pendAddr := some 5 }).map
    (fun s => (s.devAddr, s.addrEn, s.cfg.curAddr, s.pendAddr)) = some (5, true, 5, some 5) := by decide
theorem test_addr_wait_abort : (stepOn .sequencer
    { withSetup [0, 0, 0, 0, 0, 0, 0, 0] booted with phase := .addrWait, pendAddr := some 7 }).map
      (fun s => (s.addrEn, s.phase)) = some (false, .bulkOut) := by decide
theorem test_stall : (nextState (exec .stall booted)).map (fun s => (s.ep0.stall, s.ep0.inQ, s.phase))
    = some (true, none, .bulkOut) := by decide
theorem test_bulk_out : (stepOn .sequencer { configured with
    phase := .bulkOut, epOut := { armedEndpoint false with rxout := true, outBuf := [0x61, 0x42] } }).map
      (fun s => (s.relay, s.epOut.rxout, s.epOut.outBuf, s.serialOut, s.phase))
      = some (⟨.echo, some 0x42⟩, false, [], [], .bulkIn) := by decide
theorem test_bulk_out_forward : (stepOn .sequencer { configured with
    params := { Params.p0 with serialTxOnOut := .forward }
    phase := .bulkOut, epOut := { armedEndpoint false with rxout := true, outBuf := [0x42, 0x61] } }).map
      (fun s => (s.relay, s.serialOut)) = some (⟨.banner, some 0x61⟩, [0x42, 0x61]) := by decide
theorem test_bulk_trigger : (nextState (exec .bulkTrigger booted)).map (·.relay) = some ⟨.banner, none⟩ := by decide
theorem test_bulk_echo : (nextState (exec (.bulkEcho 0x41) booted)).map (·.relay) = some ⟨.echo, none⟩ := by decide
theorem test_serial_forward :
    (nextState (exec (.serialForward 0x42) { booted with params := { Params.p0 with serialTxOnOut := .forward } })).map
      (·.serialOut) = some [0x42] ∧
    (nextState (exec (.serialForward 0x42) booted)).map (·.serialOut) = some [] := by decide
theorem test_bulk_in_echo : (stepOn .sequencer { configured with
    phase := .bulkIn, relay := ⟨.echo, some 0x41⟩ }).map (fun s => (s.epIn.inQ, s.relay, s.phase))
      = some (some [0x80, 0x00, 0x41], ⟨.none, some 0x41⟩, .ctlPoll) := by decide
theorem test_bulk_in_banner : (stepOn .sequencer { configured with
    phase := .bulkIn, relay := ⟨.banner, some 0x61⟩ }).map (·.epIn.inQ)
      = some (some [0x80, 0x00, 0x48, 0x65, 0x6C, 0x6C, 0x6F, 0x2C, 0x20, 0x77, 0x6F, 0x72, 0x6C, 0x64, 0x21,
          0x0D, 0x0A]) := by decide

/-! ## One step of each event (95_test_vectors.md 2.3, 2.5, 2.7, 2.8) -/

/-- GET_STATUS as a packet. -/
def getStatusPacket : Vector Byte 8 := #v[0x80, 0x00, 0x00, 0x00, 0x00, 0x00, 0x02, 0x00]

theorem test_host_setup : (stepOn (.event (.hostSetup 0 getStatusPacket))
    { booted with ep0 := { booted.ep0 with stall := true, inQ := some [1], txrdy := false } }).map
      (fun s => (s.ep0.rxstp, s.ep0.stall, s.ep0.inQ, s.ep0.txrdy, s.ep0.outBuf.length))
      = some (true, false, none, true, 8) := by decide
theorem test_host_setup_wrong_address : (stepOn (.event (.hostSetup 7 getStatusPacket)) booted).map (·.wire)
    = some [.timeout 7 0] := by decide
theorem test_host_in : (stepOn (.event (.hostIn 0 .ctl))
    { booted with ep0 := { booted.ep0 with inQ := some [0x11], txrdy := false } }).map
      (fun s => (s.wire, s.ep0.inQ, s.ep0.txrdy)) = some ([.inData 0 [0x11]], none, true) := by decide
theorem test_host_in_nak : (stepOn (.event (.hostIn 0 .bulk)) configured).map (·.wire) = some [.nak 1] := by decide
theorem test_host_out : (stepOn (.event (.hostOut 0 .bulk [0x41])) configured).map
    (fun s => (s.wire, s.epOut.rxout, s.epOut.outBuf)) = some ([.outAck 2 1], true, [0x41]) := by decide
theorem test_host_out_pending_setup : (stepOn (.event (.hostOut 0 .ctl []))
    (withSetup [0, 0, 0, 0, 0, 0, 0, 0] booted)).map (·.wire) = some [.nak 0] := by decide
theorem test_bus_reset : (stepOn (.event .busReset) { configured with
    devAddr := 5, addrEn := true, cfg := { cfgValue := 1, curAddr := 5 }, pendAddr := some 5 }).map
      (fun s => (s.effAddr, s.cfg, s.pendAddr, s.epOut, s.wire))
      = some (0, ⟨0, 0⟩, none, .disarmed, [.busReset]) := by decide
theorem test_bus_reset_refused : (stepOn (.event .busReset) { booted with cfgAnswers := [false] }).map
    (fun s => (s.fault, s.phase, s.wire)) = some (some .endpointConfig, .halted, []) := by decide
theorem test_vbus_on : (stepOn (.event .vbusOn) State.reset).map (fun s => (s.vbus, s.conn, s.diag))
    = some (true, .enumerated, [.connected]) := by decide
theorem test_vbus_off : (stepOn (.event .vbusOff) booted).map (fun s => (s.vbus, s.conn, s.diag))
    = some (false, .disconnected, [.disconnected]) := by decide
theorem test_serial_rx :
    (stepOn (.event (.serialRx 0x61)) { booted with params := { Params.p0 with serialRxMode := .classify } }).map
      (·.relay) = some ⟨.banner, some 0x61⟩ ∧
    (stepOn (.event (.serialRx 0x41)) booted).map (·.relay) = some ⟨.none, none⟩ := by decide

/-! ## The operations and the ROM (95_test_vectors.md 2.2) -/

/-- The value of an operation that did not raise. -/
def value {α : Type} : Res α → Option α
  | .ok a _ => some a
  | .raised _ => none

theorem test_read_word : value (epReadWord16LE
    { booted with ep0 := { booted.ep0 with outBuf := [0x34, 0x12, 0x56] } }) = some 0x1234 := by decide
theorem test_write_word : (epWriteWord16LE 0x0403 { configured with sel := 1 }).state.epIn.inBuf = [0x03, 0x04] := by decide
theorem test_mem_read :
    value (memRead 0x08 2 booted) = some [0x03, 0x04] ∧ value (memRead 0x14 2 booted) = some [0x20, 0x00] ∧
    value (memRead 0x67 2 booted) = none := by decide
theorem test_lookup :
    lookup .p0 3 2 = some (0x56, 18) ∧ (rom .p0).length = 0x68 ∧ lookup .p0 3 3 = none ∧ lookup .p0 2 1 = none ∧
    lookup .p0 6 0 = none ∧ lookup .p0 4 0 = none := by decide
theorem test_mem_write_refused : refusal (memWrite 0 1 [0] booted) = some .romWrite := by decide
/-- R72: inside a program every draw answers true, unless the program says otherwise, and the target is 0. -/
theorem test_script_draws :
    (nextState (stepAs .sequencer (withSetup [0x00, 0x09, 0x01, 0x00, 0x00, 0x00, 0x00, 0x00]
      (Session.start [] booted).machine))).map (fun s => (s.fault, s.epOut.armed, s.cfgAnswers, s.cfgDraws))
      = some (none, true, [], 0) ∧
    (nextState (stepAs (.event .busReset) (Session.start [false, true] booted).machine)).map
      (fun s => (s.fault, s.cfgAnswers)) = some (some .endpointConfig, [true]) ∧
    (Session.start [] booted).target = 0 := by decide
/-- 95_test_vectors.md 2.4, `CTRL_WRITE STD DEV SET_FEATURE`, as a program from reset with the bus reset before it. -/
theorem test_script_program :
    (match runProgram 8 ([.vbus true, .busReset] ++ ctrlWrite ⟨.hostToDevice, .standard, 0, 1, 0, 0⟩ 0x03) []
        State.reset with
      | .next h => some (h.machine.wire, h.machine.phase)
      | .fault _ => none
      | .refused _ => none)
    = some ([.busReset, .setupAck [0x00, 0x03, 0x01, 0x00, 0x00, 0x00, 0x00, 0x00], .inData 0 []], .ctlPoll) := by
  decide
theorem test_power_on : (stepOn .powerOn
    { booted with fault := some .endpointConfig, phase := .halted, diag := [.connected] }).map
      (fun s => (s.fault, s.phase, s.diag, s.ep0, s.conn)) = some (none, .ctlPoll, [], .ctlReady, .disconnected) := by
  decide

/-! ## Witnesses: concrete states and operands that meet a statement's hypotheses, each clause at a boundary -/

theorem witness_EncodedInstructionDecodesToItself :
    Params.p0.wf = true ∧ wellFormed .p0 (.vOther 0xFF vInF) = true ∧
      encode .p0 (.vOther 0xFF vInF) = some [0xC0, 0xFF, 0, 0, 0, 0, 0, 0] ∧
      wellFormed .p0 .bulkTrigger = true ∧ encode .p0 .bulkTrigger = some [0x61] := by decide

theorem witness_EveryEightBytesAreOneRequest :
    Params.p0.wf = true ∧ (List.replicate 8 (0xFF : Byte)).length = 8 ∧ (List.replicate 7 (0 : Byte)).length ≠ 8 ∧
      (List.replicate 9 (0 : Byte)).length ≠ 8 := by decide

theorem witness_PowerOnStartsTheMachine : ∃ s : State, s.params.wf = true ∧ s.sched = .powerOn :: [] ∧
    s.fault = some .endpointConfig :=
  ⟨{ State.reset with sched := [.powerOn], fault := some .endpointConfig }, by decide⟩

theorem witness_BankReadsPopBytes :
    endpointOf booted.params booted.sel = some .ctl ∧ (booted.ep .ctl).outBuf = [] ∧
      ((withSetup [0xFF] booted).ep .ctl).outBuf = 0xFF :: [] ∧
      ((withSetup [0x34, 0x12] booted).ep .ctl).outBuf = 0x34 :: 0x12 :: [] := by decide

/-- The IN bank of endpoint 0 with n bytes written. -/
def withInBank (n : Nat) (s : State) : State := { s with ep0 := { s.ep0 with inBuf := List.replicate n 0 } }

theorem witness_BankWritesAppendBytes :
    endpointOf booted.params booted.sel = some .ctl ∧ (State.ep configured .bulkOut).txrdy = false ∧
      ((withInBank 64 booted).ep .ctl).inBuf.length = 64 ∧
      ((withInBank 63 booted).ep .ctl).txrdy = true ∧ ((withInBank 63 booted).ep .ctl).inBuf.length ≠ 64 ∧
      ((withInBank 63 booted).ep .ctl).inBuf.length = 63 ∧
      ((withInBank 62 booted).ep .ctl).txrdy = true ∧ ((withInBank 62 booted).ep .ctl).inBuf.length ≠ 63 ∧
      ((withInBank 62 booted).ep .ctl).inBuf.length ≠ 64 := by decide

theorem witness_FlagPrimitivesActOnTheSelection :
    endpointOf booted.params 0 = some .ctl ∧ endpointOf booted.params 1 = some .bulkIn ∧
      endpointOf booted.params 2 = some .bulkOut := by decide

theorem witness_ConfigureArmsTheEndpoint : booted.cfgAnswers = true :: [true] := by decide

theorem witness_DescriptorsDescribeThemselves :
    booted.params.wf = true ∧ lookup booted.params 2 0 = some (0x12, 32) ∧
      lookup booted.params 3 2 = some (0x56, 18) := by decide

theorem witness_RomNeverChanges : ∃ t, step { booted with sched := [.powerOn] } = .next t := ⟨_, rfl⟩

theorem witness_GetDescriptorResult : booted.params.wf = true := by decide

theorem witness_PollWithoutSetupGoesToTheRelay : booted.ep0.rxstp = false := by decide

/-- GET_STATUS as bytes. -/
def getStatusBytes : List Byte := [0x80, 0x00, 0x00, 0x00, 0x00, 0x00, 0x02, 0x00]

theorem witness_CaptureRunsTheDecodedRow :
    requestOfBytes (withSetup getStatusBytes booted).ep0.outBuf = .ok ⟨0x80, 0x00, 0, 0, 2⟩ ∧
      (withSetup getStatusBytes booted).ep0.rxstp = true ∧
      (withSetup (List.replicate 7 0) booted).ep0.outBuf.length = 7 ∧
      (withSetup (List.replicate 9 0) booted).ep0.outBuf.length = 9 ∧
      (withSetup (List.replicate 255 0) booted).ep0.outBuf.length = 255 := by
  refine ⟨by decide, by decide, by decide, by decide, ?_⟩
  simp only [withSetup, List.length_replicate]

theorem witness_sequencerChosen :
    sequencerChosen booted booted ∧ sequencerChosen { booted with sched := [.sequencer, .powerOn] }
      { booted with sched := [.powerOn] } :=
  ⟨.inl ⟨rfl, rfl⟩, .inr ⟨[.powerOn], rfl, rfl⟩⟩

theorem witness_StepRunsTheDecodedRequest :
    ∃ s : State, s.params.wf = true ∧ s.fault = none ∧ s.phase = .ctlPoll ∧ s.ep0.rxstp = true ∧
      decodeSetup s.params s.ep0.outBuf = .ok (.getStatus ⟨.deviceToHost, .standard, 0, 0, 0, 2⟩) ∧
      sequencerChosen s s :=
  ⟨withSetup getStatusBytes booted, by decide, rfl, rfl, rfl, by decide, .inl ⟨rfl, rfl⟩⟩

theorem witness_StepRunsTheInstructionAtThePhase :
    booted.params.wf = true ∧ booted.fault = none ∧ booted.phase = .ctlPoll ∧ booted.ep0.rxstp = false ∧
      { booted with phase := .inData [] 0 0 }.fault = none ∧ { booted with phase := .inStatus }.fault = none ∧
      { booted with phase := .addrWait }.fault = none ∧ { booted with phase := .bulkOut }.fault = none ∧
      { booted with phase := .bulkIn }.fault = none := by decide

theorem witness_StepRunsTheChosenEvent :
    wellFormed .p0 (Event.hostOut 0 .bulk (List.replicate 64 0)).instr = true ∧
      wellFormed .p0 (Event.hostOut 0 .bulk (List.replicate 65 0)).instr = false ∧
      ∃ s : State, s.params = .p0 ∧ s.sched = .event (.hostOut 0 .bulk (List.replicate 64 0)) :: [] :=
  ⟨by decide, by decide, { booted with sched := [.event (.hostOut 0 .bulk (List.replicate 64 0))] }, rfl, rfl⟩

theorem witness_IllFormedParametersAreRefused :
    { Params.p0 with epIn := 2 }.epIn = { Params.p0 with epIn := 2 }.epOut ∧ { Params.p0 with epIn := 0 }.epIn = 0 ∧
      { Params.p0 with epOut := 0 }.epOut = 0 ∧
      62 < { Params.p0 with banner := List.replicate 63 0 }.banner.length ∧
      255 < 2 + 2 * { Params.p0 with strProduct := List.replicate 127 0 }.strProduct.length ∧
      255 < 2 + 2 * { Params.p0 with strSerial := List.replicate 127 0 }.strSerial.length ∧
      ¬ ({ VendorCodes.p0 with setData := 0x00 }.known .hostToDevice).Nodup ∧
      ¬ ({ VendorCodes.p0 with readEeprom := 0x05 }.known .deviceToHost).Nodup := by
  refine ⟨rfl, rfl, rfl, by simp, by simp, by simp, by decide, by decide⟩

/-- The clauses of R80: a SETUP in the bank, an OUT in the bank, a chunk of exactly 64 bytes that is the last, a
zero-length chunk with sent = total, and the hold. -/
theorem witness_InDataSendsTheNextPacket :
    (withSetup getStatusBytes booted).ep0.rxstp = true ∧
      { booted.ep0 with rxout := true }.rxstp = false ∧ { booted.ep0 with rxout := true }.rxout = true ∧
      booted.ep0.rxstp = false ∧ booted.ep0.rxout = false ∧ booted.ep0.txrdy = true ∧ booted.ep0.inBuf = [] ∧
      (0 : Word).toNat ≤ (64 : Word).toNat ∧ (64 : Word).toNat ≤ (List.replicate 64 (0 : Byte)).length ∧
      (64 : Word).toNat ≤ (64 : Word).toNat ∧ { booted.ep0 with txrdy := false }.txrdy = false := by decide

theorem witness_HeldSequencerNeverMoves :
    booted.params.wf = true ∧ booted.fault = none ∧ booted.sched = [] ∧
      (let s : State := { booted with phase := .inData [1] 1 0, ep0 := { booted.ep0 with txrdy := false } }
       s.ep0.rxstp = false ∧ (∃ src total sent, s.phase = .inData src total sent) ∧ s.ep0.rxout = false ∧
         s.ep0.txrdy = false) ∧
      (let s : State := { booted with phase := .inStatus }
       s.ep0.rxstp = false ∧ s.phase = .inStatus ∧ s.ep0.rxout = false) ∧
      (let s : State := { booted with phase := .addrWait, ep0 := { booted.ep0 with txrdy := false } }
       s.ep0.rxstp = false ∧ s.phase = .addrWait ∧ s.ep0.txrdy = false) :=
  ⟨by decide, rfl, rfl, ⟨rfl, ⟨_, _, _, rfl⟩, rfl, rfl⟩, ⟨rfl, rfl, rfl⟩, ⟨rfl, rfl, rfl⟩⟩

/-- A response of 64 bytes: the zero-length packet follows. -/
theorem witness_ControlReadDeliversTheResponse :
    ∃ (s : State) (src : List Byte), s.params.wf = true ∧ s.fault = none ∧ s.phase = .inData src 64 0 ∧
      (64 : Word).toNat ≤ src.length ∧ s.ep0.armed = true ∧ s.ep0.rxstp = false ∧ s.ep0.rxout = false ∧
      s.ep0.stall = false ∧ s.ep0.txrdy = true ∧ s.ep0.inBuf = [] ∧ s.vbus = true ∧
      s.sched = readRounds s.effAddr ((64 : Word).toNat / 64 + 1) ++ [] :=
  ⟨{ booted with phase := .inData (List.replicate 64 0) 64 0, sched := readRounds 0 2 }, List.replicate 64 0,
    by decide, rfl, rfl, by decide, rfl, rfl, rfl, rfl, rfl, rfl, rfl, rfl⟩

theorem witness_AddressTakesEffectAfterTheStatus :
    ∃ s : State, s.params.wf = true ∧ s.fault = none ∧ s.phase = .ctlPoll ∧ s.ep0.armed = true ∧
      s.ep0.rxstp = true ∧ s.ep0.stall = false ∧ s.ep0.txrdy = true ∧ s.ep0.inBuf = [] ∧ s.vbus = true ∧
      decodeSetup s.params s.ep0.outBuf = .ok (.setAddress ⟨.hostToDevice, .standard, 0, 0x00FF, 0, 0⟩) ∧
      s.sched = .sequencer :: .event (.hostIn s.effAddr .ctl) :: .sequencer :: [] :=
  ⟨{ withSetup [0x00, 0x05, 0xFF, 0x00, 0x00, 0x00, 0x00, 0x00] booted with
      sched := [.sequencer, .event (.hostIn 0 .ctl), .sequencer] },
    by decide, rfl, rfl, rfl, rfl, rfl, rfl, rfl, rfl, by decide, rfl⟩

theorem witness_ConfigurationReadsBack :
    booted.cfgAnswers = true :: true :: [] ∧ stdF.dir = .deviceToHost ∧
      ∃ t, exec (.setConfiguration { stdF with dir := .hostToDevice, wValue := 0x0107 }) booted = .next t :=
  ⟨rfl, rfl, exec_next _ _⟩

/-- `booted` in another phase meets the invariant. -/
theorem inv_of_booted (s : State) (h : s.fault ≠ none ↔ s.phase = .halted) (h0 : s.ep0 = armedEndpoint true)
    (h1 : s.epIn = .disarmed ∨ s.epIn = armedEndpoint true)
    (h2 : s.epOut.outBuf.length ≤ 64) (h2' : s.epOut.armed = false → s.epOut = .disarmed)
    (h3 : s.relay.pending ≠ .echo) (h4 : ProgressOk s)
    (h5 : s.fault ≠ some .invariantViolation) : Inv s where
  fault_iff_halted := h
  no_violation := h5
  echo_has_byte := fun e => absurd e h3
  ctl := by
    refine ⟨by rw [h0]; rfl, ⟨fun _ => by rw [h0]; decide, fun q hq => ?_, by rw [h0]; rfl⟩, ?_, by rw [h0]; decide, ?_⟩
    · rw [h0] at hq; exact absurd hq (by simp [armedEndpoint])
    · intro e; rw [h0] at e; exact absurd e (by decide)
    · intro e; rw [h0] at e; exact absurd e (by decide)
  bulk := by
    refine ⟨fun e => ?_, ⟨fun e => ?_, fun q hq => ?_, ?_⟩, h2', h2⟩
    · rcases h1 with h1 | h1
      · exact h1
      · rw [h1] at e; exact absurd e (by decide)
    · rcases h1 with h1 | h1
      · rw [h1] at e; exact absurd e (by decide)
      · rw [h1]; decide
    · rcases h1 with h1 | h1 <;> rw [h1] at hq <;> exact absurd hq (by simp [armedEndpoint, Endpoint.disarmed])
    · rcases h1 with h1 | h1 <;> rw [h1] <;> rfl
  progress := h4

/-- In each wait, a SETUP and four turns of the sequencer in the schedule. -/
theorem witness_NewSetupAbortsAnyWait :
    ∃ s : State, Inv s ∧ s.params.wf = true ∧ s.fault = none ∧ s.vbus = true ∧ 0 = s.effAddr ∧
      requestOfBytes getStatusPacket.toList = .ok ⟨0x80, 0x00, 0, 0, 2⟩ ∧ s.phase = .addrWait ∧
      s.sched = .event (.hostSetup 0 getStatusPacket) :: .sequencer :: .sequencer :: .sequencer :: .sequencer :: [] :=
  ⟨{ booted with
      phase := .addrWait
      sched := [.event (.hostSetup 0 getStatusPacket), .sequencer, .sequencer, .sequencer, .sequencer] },
    inv_of_booted _ (by simp [booted, State.reset]) rfl (.inl rfl) (by decide) (fun _ => rfl) (by decide)
      (by simp [ProgressOk]) (by decide), by decide, rfl, rfl, rfl, by decide, rfl, rfl⟩

/-- The same in the middle of an IN data stage. -/
theorem witness_NewSetupAbortsAnyWait_inData :
    ∃ s : State, Inv s ∧ s.phase = .inData [1, 2] 2 2 ∧
      s.sched = .event (.hostSetup 0 getStatusPacket) :: .sequencer :: .sequencer :: .sequencer :: .sequencer :: [] :=
  ⟨{ booted with
      phase := .inData [1, 2] 2 2
      sched := [.event (.hostSetup 0 getStatusPacket), .sequencer, .sequencer, .sequencer, .sequencer] },
    inv_of_booted _ (by simp [booted, State.reset]) rfl (.inl rfl) (by decide) (fun _ => rfl) (by decide)
      (by intro a b c h; cases h; decide) (by decide), rfl, rfl⟩

theorem witness_BulkOutRelaysTheLastByte :
    booted.params.wf = true ∧ configured.epOut.rxout = false ∧
      (let x : Endpoint := { configured.epOut with rxout := true, outBuf := List.replicate 64 0x61 }
       x.rxout = true ∧ x.outBuf.length ≤ 64) ∧
      (let x : Endpoint := { configured.epOut with rxout := true, outBuf := List.replicate 65 0x61 }
       x.rxout = true ∧ 64 < x.outBuf.length ∧ x.outBuf.length ≤ 255) := by
  refine ⟨by decide, rfl, ⟨rfl, by simp⟩, ⟨rfl, by simp, by simp⟩⟩

theorem witness_BulkInSendsThePendingItem :
    configured.params.wf = true ∧ configured.relay.pending = .none ∧ booted.epIn.txrdy = false ∧
      configured.epIn.txrdy = true ∧ configured.epIn.inBuf = [] ∧
      { configured with relay := ⟨.banner, some 0x61⟩ }.relay.pending = .banner ∧
      { configured with relay := ⟨.echo, some 0x41⟩ }.relay = ⟨.echo, some 0x41⟩ := by decide

/-- A trigger byte alone in the OUT bank at the inbound check. -/
theorem witness_BannerOnlyFromTriggerByte :
    ∃ s t : State, Inv s ∧ step s = .next t ∧ s.relay.pending ≠ .banner ∧ t.relay.pending = .banner :=
  ⟨{ configured with phase := .bulkOut, epOut := { armedEndpoint false with rxout := true, outBuf := [0x61] } }, _,
    inv_of_booted _ (by simp [configured, booted, State.reset]) rfl (.inr rfl) (by decide)
      (by simp [armedEndpoint]) (by decide) (by simp [ProgressOk]) (by decide), rfl, by decide, by decide⟩

/-- For the four host steps. -/
theorem witness_HostSteps : booted.vbus = true := by decide

theorem witness_DisabledHostStepsChangeNothing : State.reset.vbus = false := by decide

theorem witness_EventsKeepPhaseAndSelection : ∃ t, exec (Event.busReset).instr booted = .next t := exec_next _ _

theorem witness_RaiseEntersTheFaultState :
    booted.fault = none ∧ { booted with fault := some .endpointConfig }.fault = some .endpointConfig := by decide

theorem witness_FaultedSequencerTurnFaults :
    ∃ s : State, s.params.wf = true ∧ s.fault = some .endpointConfig ∧ sequencerChosen s s :=
  ⟨{ booted with fault := some .endpointConfig, phase := .halted }, by decide, rfl, .inl ⟨rfl, rfl⟩⟩

theorem witness_FaultIsSticky :
    ∃ s t : State, s.fault = some .endpointConfig ∧ step s = .next t ∧ (∀ rest, s.sched ≠ .powerOn :: rest) ∧
      s.phase = .halted :=
  ⟨{ booted with fault := some .endpointConfig, phase := .halted, sched := [.event .busReset] }, _, rfl, rfl,
    by simp, rfl⟩

theorem witness_StepKeepsTheInvariant : ∃ s t : State, Inv s ∧ step s = .next t :=
  ⟨{ configured with phase := .bulkIn, relay := ⟨.banner, some 0x61⟩ }, _,
    inv_of_booted _ (by simp [configured, booted, State.reset]) rfl (.inr rfl) (by decide)
      (by simp [configured, armedEndpoint]) (by decide) (by simp [ProgressOk]) (by decide), rfl⟩

theorem witness_ProgramsNeverFault :
    ∃ h : Session, Inv h.machine ∧ h.machine.params.wf = true ∧ h.machine.fault = none ∧ h.machine.cfgAnswers = [] :=
  ⟨.start [] booted, inv_of_booted _ (by simp [Session.start, booted, State.reset]) rfl (.inl rfl) (by decide)
    (fun _ => rfl) (by decide) (by simp [ProgressOk, Session.start, booted, State.reset]) (by decide), by decide,
    rfl, rfl⟩

/-- The other clause: an OUT line of 65 bytes. -/
theorem witness_ProgramsNeverFault_longOut :
    Line.out .bulk (List.replicate 65 0) ∈ [Line.sync, .out .bulk (List.replicate 65 0)] ∧
      64 < (List.replicate 65 (0 : Byte)).length := by
  exact ⟨by simp, by simp⟩

theorem witness_OutputsAreNeverRead : ∃ t, exec (.vOther 0x0B vOutF) booted = .next t := exec_next _ _

theorem witness_ConnectionStateGatesNothing :
    (Instr.bulkIn : Instr) ≠ .vbusOn ∧ (Instr.bulkIn : Instr) ≠ .vbusOff ∧ ∃ t, exec .bulkIn booted = .next t :=
  ⟨by decide, by decide, exec_next _ _⟩

theorem witness_RecipientIsNeverRead :
    (Instr.getStatus stdF).request booted.params = some ⟨0x80, 0x00, 0, 0, 0⟩ ∧
      (∀ code f, Instr.getStatus stdF ≠ .vOther code f) ∧ ∃ t, exec (.getStatus stdF) booted = .next t :=
  ⟨by decide, by simp, exec_next _ _⟩

end Sys2Proof.Tests
end

section
/-! SUPPORT. What one step is under a parameter record that passes R10's checks and under one that fails them
(00_scope.md R7, R10), and the scope obligations settled from it. -/

namespace Sys2Proof.Machine

/-- The last two checks of R10: a well-formed record's vendor codes are distinct within each direction. -/
theorem known_nodup_of_wf {p : Params} (h : p.wf = true) (d : Dir) : (p.vendorCodes.known d).Nodup := by
  simp only [Params.wf, Bool.and_eq_true, decide_eq_true_eq] at h
  obtain ⟨⟨-, hout⟩, hin⟩ := h
  cases d
  · exact hout
  · exact hin

/-- R10: an ill-formed parameter record has no step. -/
theorem step_of_not_wf {s : State} (h : ¬ s.params.wf = true) : step s = .refused .illFormedParams :=
  if_neg h

/-- R7: under a well-formed record the step is the schedule's next turn, taken with that turn used up. -/
theorem step_of_sched_cons {s : State} {t : Turn} {rest : List Turn} (hwf : s.params.wf = true)
    (hs : s.sched = t :: rest) : step s = takeTurn t { s with sched := rest } := by
  rw [step, if_pos hwf, nextTurn, hs]

/-- An event whose operands its rule admits runs, whatever the fault register holds (R126). -/
theorem takeTurn_event_of_wellFormed {e : Event} {s : State} (h : wellFormed s.params e.instr = true) :
    takeTurn (.event e) s = exec e.instr s :=
  if_pos h

/-- An event outside its rule's domain is refused (R130). -/
theorem takeTurn_event_of_illFormed {e : Event} {s : State} (h : wellFormed s.params e.instr = false) :
    takeTurn (.event e) s = .refused .illFormedEvent :=
  if_neg (ne_true_of_eq_false h)

/-- Settles O29: the step is the event's turn, which runs or refuses the event by its operands alone. -/
theorem stepRunsTheChosenEvent : Obligations.StepRunsTheChosenEvent := by
  intro s e rest hwf hs
  rw [step_of_sched_cons hwf hs]
  constructor
  · exact fun hok => takeTurn_event_of_wellFormed hok
  · exact fun hbad => takeTurn_event_of_illFormed hbad

/-- Settles O30: each disjunct contradicts one check that a well-formed record passes. -/
theorem illFormedParametersAreRefused : Obligations.IllFormedParametersAreRefused := by
  intro s hfails
  apply step_of_not_wf
  intro hwf
  obtain ⟨hne, hin, hout, hbanner, hproduct, hserial⟩ := params_facts hwf
  rcases hfails with same | inZero | outZero | long | longProduct | longSerial | dupOut | dupIn
  · exact hne same
  · exact hin inZero
  · exact hout outZero
  · exact hbanner.not_gt long
  · exact hproduct.not_gt longProduct
  · exact hserial.not_gt longSerial
  · exact dupOut (known_nodup_of_wf hwf .hostToDevice)
  · exact dupIn (known_nodup_of_wf hwf .deviceToHost)

end Sys2Proof.Machine
end

section
/-! SUPPORT. What the sequencer's turn runs (10_state.md R16, 40_control_sequencer.md R74): the row at the phase, or
the request whose SETUP is in the bank, which is the capture step with the row's handler (R75 to R77). -/

namespace Sys2Proof.Machine

open Sys2Proof.Claims

/-! ## The row at the phase -/

/-- The sequencer's own row in each phase, with no SETUP to capture. -/
def phaseRow : Phase → Option Instr
  | .ctlPoll => some .ctlPoll
  | .inData src total sent => some (.inData src total sent)
  | .inStatus => some .inStatus
  | .addrWait => some .addrWait
  | .bulkOut => some .bulkOut
  | .bulkIn => some .bulkIn
  | .halted => none

/-- In the fault state the sequencer has no row (60_exceptions.md R126). -/
theorem fetch_of_fault {s : State} {c : FaultCode} (h : s.fault = some c) : fetch s = none := by
  simp [fetch, h]

/-- Only `CtlPoll` looks into the bank: in every other phase, and without a SETUP, the phase says the row. -/
theorem fetch_eq_phaseRow {s : State} (hf : s.fault = none) (hp : s.phase = .ctlPoll → s.ep0.rxstp = false) :
    fetch s = phaseRow s.phase := by
  cases h : s.phase with
  | ctlPoll => simp [fetch, phaseRow, hf, h, hp h]
  | _ => simp [fetch, phaseRow, hf, h]

theorem fetch_of_setup {s : State} {i : Instr} (hf : s.fault = none) (hp : s.phase = .ctlPoll)
    (hs : s.ep0.rxstp = true) (hd : decodeSetup s.params s.ep0.outBuf = .ok i) : fetch s = some i := by
  simp [fetch, hf, hp, hs, hd]

theorem sequencerTurn_of_fetch {s : State} {i : Instr} (h : fetch s = some i) : sequencerTurn s = exec i s := by
  rw [sequencerTurn, h]

/-! ## The turn -/

/-- A step is one turn, taken with the schedule moved on. -/
theorem step_of_wf {s : State} (h : s.params.wf = true) : step s = takeTurn (nextTurn s).1 (nextTurn s).2 :=
  if_pos h

/-- The state with the schedule's first choice used up. -/
def afterChoice (s : State) : State := { s with sched := s.sched.tail }

/-- Choosing a turn changes the schedule and nothing else. -/
theorem nextTurn_state (s : State) : (nextTurn s).2 = afterChoice s := by
  cases hs : s.sched with
  | nil => cases s; cases hs; rfl
  | cons t rest => simp [nextTurn, afterChoice, hs]

theorem nextTurn_powerOn {s : State} (h : (nextTurn s).1 = .powerOn) : ∃ rest, s.sched = .powerOn :: rest := by
  cases hs : s.sched with
  | nil => simp [nextTurn, hs] at h
  | cons t rest => exact ⟨rest, by simpa [nextTurn, hs] using h⟩

theorem nextTurn_of_sequencerChosen {s s' : State} (h : sequencerChosen s s') : nextTurn s = (.sequencer, s') := by
  obtain ⟨hs, rfl⟩ | ⟨rest, hs, rfl⟩ := h <;> rw [nextTurn, hs]

/-- The state the sequencer acts on stands where s stands. -/
theorem fetch_of_sequencerChosen {s s' : State} (h : sequencerChosen s s') : fetch s' = fetch s := by
  obtain ⟨-, rfl⟩ | ⟨rest, -, rfl⟩ := h <;> rfl

/-- When the sequencer is chosen and stands at a row, the step is that row's meaning. -/
theorem step_of_sequencerChosen {s s' : State} {i : Instr} (hwf : s.params.wf = true) (hc : sequencerChosen s s')
    (hi : fetch s = some i) : step s = exec i s' := by
  rw [step_of_wf hwf, nextTurn_of_sequencerChosen hc]
  exact sequencerTurn_of_fetch ((fetch_of_sequencerChosen hc).trans hi)

theorem sequencerTurn_cases {s t : State} (h : sequencerTurn s = .next t) :
    ∃ i, fetch s = some i ∧ exec i s = .next t := by
  unfold sequencerTurn at h
  split at h
  next i hi => exact ⟨i, hi, h⟩
  next => cases h

theorem eventTurn_cases {e : Event} {s t : State} (h : eventTurn e s = .next t) :
    wellFormed s.params e.instr = true ∧ exec e.instr s = .next t := by
  unfold eventTurn at h
  split at h
  next hok => exact ⟨hok, h⟩
  next => cases h

/-- What a step that answers a next state was: the sequencer's row, a well-formed event, or startup, each taken with
the schedule moved on. -/
theorem step_cases {s t : State} (h : step s = .next t) :
    s.params.wf = true ∧
      ((∃ i, fetch s = some i ∧ exec i (afterChoice s) = .next t) ∨
       (∃ e : Event, wellFormed s.params e.instr = true ∧ exec e.instr (afterChoice s) = .next t) ∨
       ((∃ rest, s.sched = .powerOn :: rest) ∧ t = powerOn (afterChoice s))) := by
  by_cases hwf : s.params.wf = true
  · refine ⟨hwf, ?_⟩
    rw [step_of_wf hwf, nextTurn_state] at h
    cases ht : (nextTurn s).1 with
    | sequencer => rw [ht] at h; exact .inl (sequencerTurn_cases h)
    | event e => rw [ht] at h; exact .inr (.inl ⟨e, eventTurn_cases h⟩)
    | powerOn => rw [ht] at h; cases h; exact .inr (.inr ⟨nextTurn_powerOn ht, rfl⟩)
  · rw [step_of_not_wf hwf] at h
    cases h

/-- Settles O28: in each phase the fetched row is the phase's own. -/
theorem stepRunsTheInstructionAtThePhase : Obligations.StepRunsTheInstructionAtThePhase := by
  intro s s' hwf hf hc
  have run : ∀ {i : Instr}, (s.phase = .ctlPoll → s.ep0.rxstp = false) → phaseRow s.phase = some i →
      step s = exec i s' := fun hp hi =>
    step_of_sequencerChosen hwf hc ((fetch_eq_phaseRow hf hp).trans hi)
  refine ⟨fun h hs => run (fun _ => hs) (by rw [h]; rfl), fun _ _ _ h => ?_, fun h => ?_, fun h => ?_, fun h => ?_,
    fun h => ?_⟩
  all_goals exact run (by simp [h]) (by rw [h]; rfl)

/-! ## Requests -/

/-- The handler of a request row (R77, R89, R102), q being the request it serves; R85's stall for the other rows. -/
def handlerOf (q : SetupRequest) : Instr → State → Res Reply
  | .getStatus f => handleGetStatus f
  | .clearFeature _ => handleClearFeature
  | .setFeature _ => handleSetFeature
  | .setAddress f => handleSetAddress f
  | .getDescriptor f => handleGetDescriptor f
  | .setDescriptor _ => handleSetDescriptor
  | .getConfiguration _ => handleGetConfiguration
  | .setConfiguration f => handleSetConfiguration f
  | .getInterface _ => handleGetInterface
  | .setInterface _ => handleSetInterface
  | .synchFrame _ => handleSynchFrame
  | .stdOther _ _ => handleStdOther
  | .vReset _ => handleVReset
  | .vModemCtrl _ => handleVModemCtrl
  | .vSetFlowCtrl _ => handleVSetFlowCtrl
  | .vSetBaudRate _ => handleVSetBaudRate
  | .vSetData _ => handleVSetData
  | .vSetLatencyTimer _ => handleVSetLatencyTimer
  | .vGetModemStatus _ => handleVGetModemStatus
  | .vGetLatencyTimer _ => handleVGetLatencyTimer
  | .vReadEeprom _ => handleVReadEeprom
  | .vOther _ _ => handleVOther q
  | _ => fun s => .ok .fail s

/-- A request row's meaning is the capture step with the row's handler (R75, R76). -/
theorem exec_of_request {i : Instr} {q : SetupRequest} {s : State} (h : i.request s.params = some q) :
    exec i s = answer (serve q (handlerOf q i) s) := by
  cases i <;> cases h <;> rfl

/-- The window's dispatch runs the handler of the row that the request decodes to (R77). -/
theorem dispatch_eq_handlerOf (q : SetupRequest) (s : State) :
    dispatch q s = handlerOf q (decodeRequest s.params q) s := by
  unfold dispatch
  cases decodeRequest s.params q <;> rfl

theorem stdRow_request (p : Params) (code : Byte) (f : Fields) : ∃ q, (stdRow code f).request p = some q := by
  unfold stdRow
  repeat' split
  all_goals exact ⟨_, rfl⟩

theorem vendorRow_request (p : Params) (c : VendorCodes) (code : Byte) (f : Fields) :
    ∃ q, (vendorRow c code f).request p = some q := by
  unfold vendorRow
  repeat' split
  all_goals exact ⟨_, rfl⟩

theorem unroutedRow_request (p : Params) (code : Byte) (f : Fields) :
    ∃ q, (unroutedRow code f).request p = some q := by
  unfold unroutedRow
  split <;> exact ⟨_, rfl⟩

/-- Every row that a captured request selects is a request row. -/
theorem decodeRequest_request (p : Params) (q : SetupRequest) : ∃ q', (decodeRequest p q).request p = some q' := by
  unfold decodeRequest requestRow
  split
  · exact stdRow_request p _ _
  · exact vendorRow_request p _ _ _
  · exact unroutedRow_request p _ _

/-- Eight bytes are a request (R60), so the decoder gives a request row. -/
theorem decodeSetup_of_length (p : Params) {bytes : List Byte} (h : bytes.length = 8) :
    ∃ i q, decodeSetup p bytes = .ok i ∧ i.request p = some q := by
  match bytes, h with
  | [b0, b1, b2, b3, b4, b5, b6, b7], _ =>
    obtain ⟨q, hq⟩ := decodeRequest_request p ⟨b0, b1, le16 b2 b3, le16 b4 b5, le16 b6 b7⟩
    exact ⟨_, q, rfl, hq⟩

end Sys2Proof.Machine
end

section
/-! SUPPORT. What each event of the environment can do (60_exceptions.md R127 to R134), once per operation: every
statement about events below goes through these lemmas. -/

namespace Sys2Proof.Machine

/-! ## Host steps and EpConfigure -/

/-- EpConfigure arms the endpoint or raises; the draw before it touches the model's own two fields only (R36). -/
theorem epConfigureOrRaise_cases (e : EpId) (k : EpKind) (n : Nat) (s : State) :
    ∃ as m,
      epConfigureOrRaise e k n s = .ok () ({ s with cfgAnswers := as, cfgDraws := m }.setEp e (.configured k)) ∨
      epConfigureOrRaise e k n s = raise .endpointConfig { s with cfgAnswers := as, cfgDraws := m } := by
  obtain ⟨b, rest, -, hd⟩ | ⟨-, hd⟩ := drawConfigOk_cases s
  · refine ⟨rest, s.cfgDraws, ?_⟩
    rw [epConfigureOrRaise_eq, hd]
    cases b
    · exact .inr rfl
    · exact .inl rfl
  · refine ⟨s.cfgAnswers, s.cfgDraws + 1, ?_⟩
    rw [epConfigureOrRaise_eq, hd]
    cases Config.epConfigOk s.cfgDraws
    · exact .inr rfl
    · exact .inl rfl

/-- A host SETUP is recorded or timed out on the wire, or fills endpoint 0's bank (R128). -/
theorem execHostSetup_cases (a : Addr) (p : Vector Byte 8) (s : State) :
    execHostSetup a p s = .next s ∨ ∃ w, execHostSetup a p s = .next (emitWire w s) ∨
      execHostSetup a p s = .next (emitWire w (s.setEp .ctl (s.ep0.setupArrived p.toList))) := by
  unfold execHostSetup
  split
  · exact .inl rfl
  · split
    · exact .inr ⟨_, .inl rfl⟩
    · exact .inr ⟨_, .inr rfl⟩

/-- A host IN makes a wire entry, and at most takes the queued packet of an armed endpoint (R129). -/
theorem hostInAt_cases (a : Addr) (e : EpId) (s : State) :
    ∃ w, hostInAt a e s = emitWire w s ∨ ((s.ep e).armed = true ∧
      hostInAt a e s = (emitWire w s).setEp e { s.ep e with inQ := none, txrdy := true }) := by
  unfold hostInAt
  split
  next => exact ⟨_, .inl rfl⟩
  next haddr =>
    split
    · exact ⟨_, .inl rfl⟩
    · split
      · exact ⟨_, .inr ⟨by simpa using (not_or.mp haddr).2, rfl⟩⟩
      · exact ⟨_, .inl rfl⟩

/-- A host OUT makes a wire entry, and at most fills the bank of an armed endpoint; of endpoint 0 only while no
SETUP is in it (R130). -/
theorem hostOutAt_cases (a : Addr) (e : EpId) (p : List Byte) (s : State) :
    ∃ w, hostOutAt a e p s = emitWire w s ∨ ((s.ep e).armed = true ∧ (e = .ctl → s.ep0.rxstp = false) ∧
      hostOutAt a e p s = (emitWire w s).setEp e { s.ep e with outBuf := p, rxout := true }) := by
  unfold hostOutAt
  split
  next => exact ⟨_, .inl rfl⟩
  next haddr =>
    split
    · exact ⟨_, .inl rfl⟩
    · split
      next => exact ⟨_, .inl rfl⟩
      next hfree =>
        refine ⟨_, .inr ⟨by simpa using (not_or.mp haddr).2, fun hctl => ?_, rfl⟩⟩
        simpa [hctl] using (not_or.mp hfree).2

/-- A bus reset resets and configures endpoint 0, or raises after the reset; without bus power neither (R131). -/
theorem execBusReset_cases (s : State) :
    execBusReset s = .next s ∨ ∃ as m,
      execBusReset s = .next (emitWire .busReset
        ({ endOfReset s with cfgAnswers := as, cfgDraws := m }.setEp .ctl (.configured .control))) ∨
      execBusReset s = .next (raiseFault .endpointConfig { endOfReset s with cfgAnswers := as, cfgDraws := m }) := by
  unfold execBusReset
  split
  · exact .inl rfl
  · obtain ⟨as, m, h | h⟩ := epConfigureOrRaise_cases .ctl .control Config.ep0Size (endOfReset s)
    · exact .inr ⟨as, m, .inl (by rw [h]; rfl)⟩
    · exact .inr ⟨as, m, .inr (by rw [h]; rfl)⟩

theorem execVbusOn_frame (s : State) :
    ∃ c d, execVbusOn s = .next { s with vbus := true, conn := c, diag := d } := by
  unfold execVbusOn
  split
  · exact ⟨_, _, rfl⟩
  · exact ⟨s.conn, s.diag, rfl⟩

theorem execVbusOff_frame (s : State) :
    ∃ c d, execVbusOff s = .next { s with vbus := false, conn := c, diag := d } := by
  unfold execVbusOff
  split
  · exact ⟨_, _, rfl⟩
  · exact ⟨s.conn, s.diag, rfl⟩

/-- Classing a byte leaves it in the slot as the last one received, with an item pending (R69, R119). -/
theorem classify_relayLast (b : Byte) (s : State) :
    classify b (relayLast b s)
      = { s with relay := { pending := if b = Config.trigger then .banner else .echo, lastIn := some b } } := by
  unfold classify
  split <;> rfl

theorem execSerialRx_cases (b : Byte) (s : State) :
    execSerialRx b s = .next s ∨ execSerialRx b s = .next (classify b (relayLast b s)) := by
  unfold execSerialRx
  split
  · exact .inr rfl
  · exact .inl rfl

/-- Settles O48: each host step tests `vbus` first (R28). -/
theorem disabledHostStepsChangeNothing : Obligations.DisabledHostStepsChangeNothing := by
  intro a p b e o s hv
  have hostSetup : execHostSetup a p s = .next s := by rw [execHostSetup, if_pos hv]
  have hostIn : execHostIn a e s = .next s := by rw [execHostIn, if_pos hv]
  have hostOut : execHostOut a o b s = .next s := by rw [execHostOut, if_pos hv]
  have busReset : execBusReset s = .next s := by rw [execBusReset, if_pos hv, answer_eq, state_ok]
  exact ⟨hostSetup, hostIn, hostOut, busReset⟩

/-! ## The fault register under events -/

/-- From s to t the fault register and the phase are as they were, or a raise has entered the fault state and kept the
code that s held, if any (R22). -/
def FaultKept (s t : State) : Prop :=
  (t.fault = s.fault ∧ t.phase = s.phase) ∨ ∃ c, t.fault = s.fault.or (some c) ∧ t.phase = .halted

theorem FaultKept.of_eq {s t : State} (hf : t.fault = s.fault := by rfl) (hp : t.phase = s.phase := by rfl) :
    FaultKept s t := .inl ⟨hf, hp⟩

theorem hostInAt_faultKept (a : Addr) (e : EpId) (s : State) : FaultKept s (hostInAt a e s) := by
  obtain ⟨w, h | ⟨-, h⟩⟩ := hostInAt_cases a e s <;> rw [h]
  · exact .of_eq
  · exact .of_eq (setEp_fault _ _ _) (setEp_phase _ _ _)

theorem hostOutAt_faultKept (a : Addr) (e : EpId) (p : List Byte) (s : State) :
    FaultKept s (hostOutAt a e p s) := by
  obtain ⟨w, h | ⟨-, -, h⟩⟩ := hostOutAt_cases a e p s <;> rw [h]
  · exact .of_eq
  · exact .of_eq (setEp_fault _ _ _) (setEp_phase _ _ _)

theorem busReset_faultKept {s t : State} (h : execBusReset s = .next t) : FaultKept s t := by
  obtain h' | ⟨as, m, h' | h'⟩ := execBusReset_cases s <;> rw [h'] at h <;> cases h
  · exact .of_eq
  · exact .of_eq
  · exact .inr ⟨_, raiseFault_fault _ _, rfl⟩

/-- An event changes the fault register and the phase by a raise alone, and a raise writes the register once
(R22, R139). -/
theorem event_faultKept {e : Event} {s t : State} (h : exec e.instr s = .next t) : FaultKept s t := by
  cases e with
  | hostSetup a p =>
    obtain h' | ⟨w, h' | h'⟩ := execHostSetup_cases a p s <;> cases h'.symm.trans h <;> exact .of_eq
  | hostIn a e =>
    cases h
    split
    · exact .of_eq
    · exact hostInAt_faultKept a (inPipeEp e) s
  | hostOut a e p =>
    cases h
    split
    · exact .of_eq
    · exact hostOutAt_faultKept a (outPipeEp e) p s
  | busReset => exact busReset_faultKept h
  | vbusOn => obtain ⟨c, d, h'⟩ := execVbusOn_frame s; cases h'.symm.trans h; exact .of_eq
  | vbusOff => obtain ⟨c, d, h'⟩ := execVbusOff_frame s; cases h'.symm.trans h; exact .of_eq
  | serialRx b =>
    obtain h' | h' := execSerialRx_cases b s <;> cases h'.symm.trans h
    · exact .of_eq
    · rw [classify_relayLast]; exact .of_eq

/-- A set register keeps its code, and `Halted` stays. -/
theorem FaultKept.sticky {s t : State} {c : FaultCode} (h : FaultKept s t) (hc : s.fault = some c) :
    t.fault = some c ∧ (s.phase = .halted → t.phase = .halted) := by
  obtain ⟨hf, hp⟩ | ⟨c', hf, hp⟩ := h
  · exact ⟨hf.trans hc, fun hh => hp.trans hh⟩
  · exact ⟨by rw [hf, hc]; rfl, fun _ => hp⟩

/-- Settles O54: the sequencer has no next state there, and an event keeps the code. -/
theorem faultIsSticky : Obligations.FaultIsSticky := by
  intro s t c hc hstep hturn
  obtain ⟨-, ⟨i, hfetch, -⟩ | ⟨e, -, hexec⟩ | ⟨⟨rest, hs⟩, -⟩⟩ := step_cases hstep
  · rw [fetch_of_fault hc] at hfetch
    cases hfetch
  · exact (event_faultKept hexec).sticky hc
  · exact absurd hs (hturn rest)

end Sys2Proof.Machine
end

section
/-! SUPPORT. The sequencer's rows as equations (40_control_sequencer.md R75 to R83, 43_bulk_relay.md R118): the flags
they test, and the packets they build. -/

namespace Sys2Proof.Machine

/-! ## The flags of endpoint 0 -/

theorem epFlags_ctl (s : State) :
    epFlags (epSelect .ctl s) = .ok ⟨s.ep0.rxstp, s.ep0.rxout, s.ep0.txrdy⟩ (epSelect .ctl s) :=
  epFlags_eq (endpointOf_ctl s)

theorem execCtlPoll_eq (s : State) :
    execCtlPoll s = answer (if s.ep0.rxstp then captureStep (epSelect .ctl s)
      else .ok () (setPhase .bulkOut (epSelect .ctl s))) := by
  rw [execCtlPoll, epFlags_ctl]; rfl

/-- R80's one packet: the chunk written and committed, and the phase after it. -/
def sendChunk (src : List Byte) (total sent : Word) (s : State) : Res Unit :=
  (writeSlice src sent.toNat (chunkSize total sent) s).bind fun _ s =>
    (epCommit s).bind fun _ s => .ok () (setPhase (afterChunk src total sent (chunkSize total sent)) s)

theorem execInData_eq (src : List Byte) (total sent : Word) (s : State) :
    execInData src total sent s = answer (
      if s.ep0.rxstp then .ok () (setPhase .bulkOut (epSelect .ctl s))
      else if s.ep0.rxout then .ok () (setPhase .inStatus (epSelect .ctl s))
      else if s.ep0.txrdy then sendChunk src total sent (epSelect .ctl s)
      else .ok () s) := by
  rw [execInData, epFlags_ctl]; rfl

/-- R81's completion: the host's OUT released, the zero-length status committed. -/
def completeStatus (s : State) : Res Unit :=
  (epRelease s).bind fun _ s => (epCommit s).bind fun _ s => .ok () (setPhase .bulkOut s)

theorem execInStatus_eq (s : State) :
    execInStatus s = answer (
      if s.ep0.rxstp then .ok () (setPhase .bulkOut (epSelect .ctl s))
      else if s.ep0.rxout then completeStatus (epSelect .ctl s)
      else .ok () s) := by
  rw [execInStatus, epFlags_ctl]; rfl

theorem execAddrWait_eq (s : State) :
    execAddrWait s = answer (
      if s.ep0.rxstp then .ok () (setPhase .bulkOut (epSelect .ctl s))
      else if s.ep0.txrdy then .ok () (setPhase .bulkOut (latchAddress (epSelect .ctl s)))
      else .ok () s) := by
  rw [execAddrWait, epFlags_ctl]; rfl

/-! ## Packets -/

/-- A response's chunk fits the bank and stays inside the response (R80, R88). -/
theorem chunkSize_le (total sent : Word) : chunkSize total sent ≤ 64 := Nat.min_le_right _ _

theorem sent_add_chunkSize_le {total sent : Word} (h : sent.toNat ≤ total.toNat) :
    sent.toNat + chunkSize total sent ≤ total.toNat := by
  unfold chunkSize; omega

/-- From a free, clean bank the chunk goes out whole and nothing raises (R80). -/
theorem sendChunk_eq {src : List Byte} {total sent : Word} {s : State} {e : EpId}
    (hsel : endpointOf s.params s.sel = some e) (ht : (s.ep e).txrdy = true) (hb : (s.ep e).inBuf = [])
    (hsize : e.size = 64) (h1 : sent.toNat ≤ total.toNat) (h2 : total.toNat ≤ src.length) :
    sendChunk src total sent s = .ok () (setPhase (afterChunk src total sent (chunkSize total sent))
      (s.setEp e { s.ep e with
        inQ := some ((src.drop sent.toNat).take (chunkSize total sent)), inBuf := [], txrdy := false })) := by
  have fits : (s.ep e).inBuf.length + chunkSize total sent ≤ e.size := by
    rw [hb, hsize]; simpa using chunkSize_le total sent
  rw [sendChunk, writeSlice_ok src _ hsel ht fits ((sent_add_chunkSize_le h1).trans h2), bind_ok,
    epCommit_eq (e := e) (by simpa using hsel), commit_ready (by simpa using ht)]
  simp [hb]

/-- The bytes a pending item sends after the status bytes, if it has them (30_encoding.md R70). -/
def payload (s : State) : Option (List Byte) :=
  match s.relay.pending with
  | .banner => some s.params.banner
  | .echo | .none => s.relay.lastIn.map fun b => [b]

theorem writeBytes_singleton (b : Byte) (s : State) : writeBytes [b] s = epWriteByte b s := by
  cases hw : epWriteByte b s <;> simp [writeBytes, hw]

theorem writePayload_eq {s : State} {bs : List Byte} (h : payload s = some bs) : writePayload s = writeBytes bs s := by
  cases hp : s.relay.pending with
  | banner =>
    simp only [payload, hp, Option.some.injEq] at h
    simp only [writePayload, hp, h]
  | _ =>
    simp only [payload, hp] at h
    obtain ⟨b, hb, rfl⟩ := Option.map_eq_some_iff.mp h
    simp only [writePayload, hp, hb, writeBytes_singleton]

theorem payload_setEp (s : State) (e : EpId) (x : Endpoint) : payload (s.setEp e x) = payload s := by
  cases e <;> rfl

/-- R118's packet: the two status bytes and the payload, committed, and the slot emptied. -/
def sendItem (s : State) : Res Unit :=
  (epWriteByte Config.status0 s).bind fun _ s =>
    (epWriteByte Config.status1 s).bind fun _ s =>
      (writePayload s).bind fun _ s =>
        (epCommit s).bind fun _ s => .ok () { s with relay := { s.relay with pending := .none } }

/-- From a free, clean bank an item with its bytes goes out whole and nothing raises. -/
theorem sendItem_eq {s : State} {e : EpId} {bs : List Byte} (hsel : endpointOf s.params s.sel = some e)
    (ht : (s.ep e).txrdy = true) (hb : (s.ep e).inBuf = []) (hsize : e.size = 64) (hp : payload s = some bs)
    (hl : bs.length ≤ 62) :
    sendItem s = .ok ()
      { s.setEp e { s.ep e with
          inQ := some (Config.status0 :: Config.status1 :: bs), inBuf := [], txrdy := false } with
        relay := { s.relay with pending := .none } } := by
  rw [sendItem, epWriteByte_ok hsel _ ht (by simp [hb, hsize]), bind_ok,
    epWriteByte_ok (e := e) (by simpa using hsel) _ (by simpa using ht) (by simp [hb, hsize]), bind_ok,
    writePayload_eq (bs := bs) (by simpa [payload_setEp] using hp),
    writeBytes_ok bs (e := e) (by simpa using hsel) (by simpa using ht) (by simp [hb, hsize]; omega), bind_ok,
    epCommit_eq (e := e) (by simpa using hsel), commit_ready (by simpa using ht)]
  simp [hb]

end Sys2Proof.Machine
end

section
/-! SUPPORT. The invariant over the state's operations: what Safety.Inv asks of one endpoint, what each operation on
an endpoint keeps of it, and the updates of the state that keep the whole (20_memory.md R46, 40_control_sequencer.md
R76, R88, 60_exceptions.md R128 to R131). -/

namespace Sys2Proof.Safety

open Sys2Proof.Machine

/-! ## The invariant of one endpoint -/

/-- What the invariant asks of one endpoint: endpoint 0's part is CtlOk, the bulk endpoints' parts are BulkOk. -/
def EpOk : EpId → Endpoint → Prop
  | .ctl, x =>
    x.armed = true ∧ InBankOk x ∧ (x.rxstp = true → x.outBuf.length = 8) ∧ x.outBuf.length ≤ 64 ∧
      (x.rxstp = true → x.rxout = false)
  | .bulkIn, x => (x.armed = false → x = .disarmed) ∧ InBankOk x
  | .bulkOut, x => (x.armed = false → x = .disarmed) ∧ x.outBuf.length ≤ 64

theorem Inv.epOk {s : State} (h : Inv s) (e : EpId) : EpOk e (s.ep e) := by
  obtain ⟨-, -, -, hc, hb, -⟩ := h
  cases e
  · exact ⟨hc.armed, hc.inBank, hc.setup_bytes, hc.bank_size, hc.not_both⟩
  · exact ⟨hb.in_idle, hb.inBank⟩
  · exact ⟨hb.out_idle, hb.bank_size⟩

theorem inv_of_epOk {s : State} (hf : s.fault ≠ none ↔ s.phase = .halted)
    (hv : s.fault ≠ some .invariantViolation) (hr : s.relay.pending = .echo → s.relay.lastIn ≠ none)
    (he : ∀ e, EpOk e (s.ep e)) (hp : ProgressOk s) : Inv s := by
  obtain ⟨armed, inBank, setup_bytes, bank_size, not_both⟩ := he .ctl
  obtain ⟨in_idle, bulkBank⟩ := he .bulkIn
  obtain ⟨out_idle, out_size⟩ := he .bulkOut
  exact ⟨hf, hv, hr, ⟨armed, inBank, setup_bytes, bank_size, not_both⟩,
    ⟨in_idle, bulkBank, out_idle, out_size⟩, hp⟩

theorem InBankOk.of_clear {x : Endpoint} (hr : x.armed = true → x.txrdy = true) (hb : x.inBuf = [])
    (hq : x.inQ = none) : InBankOk x where
  ready_iff ha := by simp [hr ha, hq]
  queued_size q h := by rw [hq] at h; cases h
  clean := hb

/-- Each endpoint's kind (R36). -/
def kindOf : EpId → EpKind
  | .ctl => .control
  | .bulkIn => .bulkIn
  | .bulkOut => .bulkOut

theorem epOk_configured (e : EpId) : EpOk e (.configured (kindOf e)) := by
  cases e
  · exact ⟨rfl, .of_clear (fun _ => rfl) rfl rfl, nofun, Nat.zero_le _, nofun⟩
  · exact ⟨nofun, .of_clear (fun _ => rfl) rfl rfl⟩
  · exact ⟨nofun, Nat.zero_le _⟩

theorem epOk_disarmed {e : EpId} (h : e ≠ .ctl) : EpOk e .disarmed := by
  cases e
  · exact absurd rfl h
  · exact ⟨fun _ => rfl, .of_clear nofun rfl rfl⟩
  · exact ⟨fun _ => rfl, Nat.zero_le _⟩

section
variable {e : EpId} {x : Endpoint}

/-- An endpoint whose IN bank is free is armed. -/
theorem EpOk.armed_of_txrdy (h : EpOk e x) (ht : x.txrdy = true) : x.armed = true := by
  cases e
  · obtain ⟨armed, -⟩ := h
    exact armed
  all_goals
    obtain ⟨idle, -⟩ := h
    by_contra ha
    rw [idle (by simpa using ha)] at ht
    cases ht

/-- A packet committed from a free bank (R46). -/
theorem EpOk.send (h : EpOk e x) (ht : x.txrdy = true) {bs : List Byte} (hl : bs.length ≤ 64) :
    EpOk e { x with inQ := some bs, inBuf := [], txrdy := false } := by
  have ha := h.armed_of_txrdy ht
  have bank : InBankOk { x with inQ := some bs, inBuf := [], txrdy := false } :=
    ⟨by simp, by rintro q ⟨⟩; exact hl, rfl⟩
  have idle {y : Endpoint} : x.armed = false → y = .disarmed := fun hn => absurd ha (ne_true_of_eq_false hn)
  cases e
  · obtain ⟨-, -, setup⟩ := h
    exact ⟨ha, bank, setup⟩
  · exact ⟨idle, bank⟩
  · obtain ⟨-, size⟩ := h
    exact ⟨idle, size⟩

/-- The zero-length status (R82): endpoint 0's bank is empty between two steps. -/
theorem EpOk.commit (h : EpOk .ctl x) : EpOk .ctl x.commit := by
  cases ht : x.txrdy with
  | false => rw [commit_busy ht]; exact h
  | true =>
    obtain ⟨-, bank, -⟩ := id h
    rw [commit_ready ht]
    exact h.send ht (by simp [bank.clean])

/-- The host has taken the queued packet (R129). -/
theorem EpOk.taken (h : EpOk e x) (ha : x.armed = true) : EpOk e { x with inQ := none, txrdy := true } := by
  have bank (hb : InBankOk x) : InBankOk { x with inQ := none, txrdy := true } :=
    .of_clear (fun _ => rfl) hb.clean rfl
  have idle {y : Endpoint} : x.armed = false → y = .disarmed := fun hn => absurd ha (ne_true_of_eq_false hn)
  cases e
  · obtain ⟨-, before, setup⟩ := h
    exact ⟨ha, bank before, setup⟩
  · obtain ⟨-, before⟩ := h
    exact ⟨idle, bank before⟩
  · obtain ⟨-, size⟩ := h
    exact ⟨idle, size⟩

theorem InBankOk.of_same {y : Endpoint} (h : InBankOk x) (ha : y.armed = x.armed := by rfl)
    (ht : y.txrdy = x.txrdy := by rfl) (hb : y.inBuf = x.inBuf := by rfl) (hq : y.inQ = x.inQ := by rfl) :
    InBankOk y where
  ready_iff := by rw [ha, ht, hq]; exact h.ready_iff
  queued_size := by rw [hq]; exact h.queued_size
  clean := hb.trans h.clean

/-- The host has put a packet in the bank (R130). -/
theorem EpOk.filled (h : EpOk e x) (ha : x.armed = true) (hs : e = .ctl → x.rxstp = false) {p : List Byte}
    (hl : p.length ≤ 64) : EpOk e { x with outBuf := p, rxout := true } := by
  have idle {y : Endpoint} : x.armed = false → y = .disarmed := fun hn => absurd ha (ne_true_of_eq_false hn)
  cases e
  · obtain ⟨-, bank, -⟩ := h
    exact ⟨ha, bank.of_same, fun hn => absurd hn (by simp [hs rfl]), hl, fun hn => absurd hn (by simp [hs rfl])⟩
  · obtain ⟨-, bank⟩ := h
    exact ⟨idle, bank.of_same⟩
  · exact ⟨idle, hl⟩

/-- The bank given back (R45); endpoint 0's only while no SETUP is in it. -/
theorem EpOk.released (h : EpOk e x) (hs : e = .ctl → x.rxstp = false) :
    EpOk e { x with rxout := false, outBuf := [] } := by
  cases e
  · obtain ⟨armed, bank, -⟩ := h
    exact ⟨armed, bank.of_same, fun hn => absurd hn (by simp [hs rfl]), Nat.zero_le _, fun _ => rfl⟩
  · obtain ⟨idle, bank⟩ := h
    exact ⟨fun ha => by rw [idle ha]; rfl, bank.of_same⟩
  · obtain ⟨idle, -⟩ := h
    exact ⟨fun ha => by rw [idle ha]; rfl, Nat.zero_le _⟩

/-- The bank read to its end (R39). -/
theorem EpOk.emptied (h : EpOk .bulkOut x) : EpOk .bulkOut { x with outBuf := [] } := by
  obtain ⟨idle, -⟩ := h
  exact ⟨fun ha => by rw [idle ha]; rfl, Nat.zero_le _⟩

/-- The SETUP captured (R44). -/
theorem EpOk.captured (h : EpOk .ctl x) : EpOk .ctl { x with rxstp := false, outBuf := [] } := by
  obtain ⟨armed, bank, -⟩ := h
  exact ⟨armed, bank.of_same, nofun, Nat.zero_le _, nofun⟩

/-- The protocol stall (R47). -/
theorem EpOk.stalled (h : EpOk .ctl x) : EpOk .ctl { x with stall := true } := by
  obtain ⟨armed, bank, setup⟩ := h
  exact ⟨armed, bank.of_same, setup⟩

/-- A SETUP of eight bytes has arrived (R128). -/
theorem EpOk.setupArrived (h : EpOk .ctl x) {p : List Byte} (hp : p.length = 8) : EpOk .ctl (x.setupArrived p) := by
  obtain ⟨armed, -⟩ := h
  exact ⟨armed, .of_clear (fun _ => rfl) rfl rfl, fun _ => hp, hp.trans_le (by decide), fun _ => rfl⟩

end

/-! ## The invariant over updates of the state -/

/-- A phase the sequencer may enter: not the fault state, and with its progress in range (R88). -/
def PhaseOk (ph : Phase) : Prop :=
  ph ≠ .halted ∧ ∀ src total sent, ph = .inData src total sent →
    sent.toNat ≤ total.toNat ∧ total.toNat ≤ src.length ∧ src.length ≤ 255

theorem phaseOk_ctlPoll : PhaseOk .ctlPoll := ⟨nofun, nofun⟩
theorem phaseOk_inStatus : PhaseOk .inStatus := ⟨nofun, nofun⟩
theorem phaseOk_addrWait : PhaseOk .addrWait := ⟨nofun, nofun⟩
theorem phaseOk_bulkOut : PhaseOk .bulkOut := ⟨nofun, nofun⟩
theorem phaseOk_bulkIn : PhaseOk .bulkIn := ⟨nofun, nofun⟩

theorem phaseOk_inData {src : List Byte} {total sent : Word} (h1 : sent.toNat ≤ total.toNat)
    (h2 : total.toNat ≤ src.length) (h3 : src.length ≤ 255) : PhaseOk (.inData src total sent) :=
  ⟨nofun, by rintro _ _ _ ⟨⟩; exact ⟨h1, h2, h3⟩⟩

section
variable {s t : State}

/-- The invariant reads the fault register, the phase, the relay and the endpoints, and nothing else. -/
theorem Inv.of_same (h : Inv s) (hf : t.fault = s.fault := by rfl) (hp : t.phase = s.phase := by rfl)
    (hr : t.relay = s.relay := by rfl) (he : ∀ e, t.ep e = s.ep e := by exact fun e => by cases e <;> rfl) :
    Inv t := by
  refine inv_of_epOk ?_ ?_ ?_ (fun e => by rw [he e]; exact h.epOk e) ?_
  · rw [hf, hp]; exact h.fault_iff_halted
  · rw [hf]; exact h.no_violation
  · rw [hr]; exact h.echo_has_byte
  · intro src total sent hph
    exact h.progress src total sent (hp.symm.trans hph)

theorem Inv.inv_setPhase (h : Inv s) (hf : s.fault = none) {ph : Phase} (hp : PhaseOk ph) : Inv (setPhase ph s) :=
  inv_of_epOk (by simp [hf, hp.1]) h.no_violation h.echo_has_byte (fun e => by rw [ep_setPhase]; exact h.epOk e) hp.2

theorem Inv.inv_setEp (h : Inv s) {e : EpId} {x : Endpoint} (hx : EpOk e x) : Inv (s.setEp e x) := by
  refine inv_of_epOk ?_ ?_ ?_ (fun d => ?_) ?_
  · simpa using h.fault_iff_halted
  · simpa using h.no_violation
  · simpa using h.echo_has_byte
  · by_cases hd : d = e
    · rw [hd, ep_setEp_same]; exact hx
    · rw [ep_setEp_other s e d x hd]; exact h.epOk d
  · simpa [ProgressOk] using h.progress

theorem Inv.inv_setRelay (h : Inv s) {r : Relay} (hr : r.pending = .echo → r.lastIn ≠ none) :
    Inv { s with relay := r } :=
  inv_of_epOk h.fault_iff_halted h.no_violation hr h.epOk h.progress

/-- A refused configuration is no invariant violation (R121, R124). -/
theorem Inv.inv_raiseFault (h : Inv s) : Inv (raiseFault .endpointConfig s) := by
  refine inv_of_epOk (by simp) ?_ h.echo_has_byte h.epOk nofun
  have before := h.no_violation
  cases hf : s.fault with
  | none => simp [hf]
  | some c => simpa [hf] using before

/-- A received byte is there for its echo (R116). -/
theorem Inv.inv_classify (h : Inv s) (b : Byte) : Inv (classify b (relayLast b s)) := by
  rw [classify_relayLast]
  exact h.inv_setRelay nofun

end

/-! ## Reset and startup -/

theorem epOk_reset (e : EpId) : EpOk e (State.reset.ep e) := by
  cases e
  · exact epOk_configured .ctl
  · exact epOk_disarmed nofun
  · exact epOk_disarmed nofun

/-- Settles O57: R34's endpoints are a configured endpoint 0 and two disarmed ones. -/
theorem resetMeetsTheInvariant : Obligations.ResetMeetsTheInvariant :=
  inv_of_epOk (by simp [State.reset]) nofun nofun epOk_reset nofun

/-- R30's reset column, in the model's view of the registers. -/
theorem controlReg_reset :
    State.reset.controlReg .cr0 = ⟨true, 0⟩ ∧ State.reset.controlReg .cr1 = ⟨true, 0⟩ ∧
      State.reset.controlReg .cr2 = ⟨false, 0⟩ ∧ State.reset.controlReg .cr3 = ⟨true, 0⟩ ∧
      State.reset.controlReg .cr4 = ⟨true, 0⟩ ∧ State.reset.controlReg .cr5 = ⟨false, 0⟩ ∧
      State.reset.controlReg .cr6 = ⟨false, 0⟩ ∧ State.reset.controlReg .cr8 = ⟨false, 0⟩ := by
  decide

/-- Settles O5: the fields of R34 as they stand in the reset state, then the registers. -/
theorem resetHoldsTheTableValues : Obligations.ResetHoldsTheTableValues :=
  ⟨rfl, rfl, rfl, rfl, rfl, rfl, rfl, rfl, rfl, rfl, rfl, rfl, rfl, rfl, rfl, controlReg_reset⟩

theorem inv_powerOnValues (s : State) : Inv (powerOnValues s) :=
  Inv.of_same (s := State.reset) resetMeetsTheInvariant

end Sys2Proof.Safety
end

section
/-! SUPPORT. Every step keeps the invariant: one lemma per sequencer row, per handler and per event, over the
operations' lemmas above. -/

namespace Sys2Proof.Safety

open Sys2Proof.Machine

/-! ## The rule of sequencing -/

/-- The operation either answers as Q says, or has raised into a state of the invariant. -/
def Ensures {α : Type} (r : Res α) (Q : α → State → Prop) : Prop :=
  match r with
  | .ok a s => Q a s
  | .raised s => Inv s

@[simp] theorem ensures_ok {α : Type} {a : α} {s : State} {Q : α → State → Prop} :
    Ensures (.ok a s) Q ↔ Q a s := Iff.rfl

theorem Ensures.bind {α β : Type} {r : Res α} {k : α → State → Res β} {P : α → State → Prop}
    {Q : β → State → Prop} (hr : Ensures r P) (hk : ∀ a s, P a s → Ensures (k a s) Q) :
    Ensures (r.bind k) Q := by
  cases r with
  | ok a s => exact hk a s hr
  | raised s => exact hr

theorem Ensures.inv {r : Res Unit} (h : Ensures r fun _ => Inv) : Inv r.state := by
  cases r <;> exact h

/-- A state in which the sequencer has the turn: well-formed parameters, the invariant, and no fault. -/
structure Live (s : State) : Prop where
  wf : s.params.wf = true
  inv : Inv s
  running : s.fault = none

theorem Live.live_setEp {s : State} (h : Live s) {e : EpId} {x : Endpoint} (hx : EpOk e x) : Live (s.setEp e x) :=
  ⟨by simpa using h.wf, h.inv.inv_setEp hx, by simpa using h.running⟩

theorem Live.inv_setPhase {s : State} (h : Live s) {ph : Phase} (hp : PhaseOk ph) : Inv (setPhase ph s) :=
  h.inv.inv_setPhase h.running hp

theorem Live.live_epSelect {s : State} (h : Live s) (e : EpId) : Live (epSelect e s) :=
  ⟨h.wf, h.inv.of_same, h.running⟩

theorem Live.ep0Ok {s : State} (h : Live s) : EpOk .ctl s.ep0 := h.inv.epOk .ctl

/-- After its selection the endpoint with that number is the selected one (R10, R37). -/
theorem Live.endpointOf_epSelect {s : State} (h : Live s) (e : EpId) :
    endpointOf (epSelect e s).params (epSelect e s).sel = some e :=
  endpointOf_number h.wf e

/-- A configuration arms the endpoint, or the raise keeps the invariant. -/
theorem Live.ensures_epConfigureOrRaise {s : State} (h : Live s) (e : EpId) (n : Nat) :
    Ensures (epConfigureOrRaise e (kindOf e) n s) fun _ => Live := by
  obtain ⟨as, m, hc | hc⟩ := epConfigureOrRaise_cases e (kindOf e) n s <;> rw [hc]
  · have drawn : Live { s with cfgAnswers := as, cfgDraws := m } := ⟨h.wf, h.inv.of_same, h.running⟩
    exact drawn.live_setEp (epOk_configured e)
  · exact (Inv.of_same h.inv).inv_raiseFault

/-! ## The paths (R78, R82, R84) -/

theorem lengthLimit_toNat (resp : List Byte) (w : Word) : (lengthLimit resp w).toNat = min resp.length w.toNat := by
  rw [lengthLimit, BitVec.toNat_ofNat]
  exact Nat.mod_eq_of_lt (lt_of_le_of_lt (Nat.min_le_right _ _) w.isLt)

/-- What a handler may answer: a response that fits one byte of length. -/
def ReplyOk (r : Reply) : Prop := ∀ resp, r = .ok resp → resp.length ≤ 255

/-- A path ends on endpoint 0's bank and in a phase. -/
theorem Live.inv_path {s : State} (h : Live s) {x : Endpoint} (hx : EpOk .ctl x) {ph : Phase} (hp : PhaseOk ph) :
    Inv { s with sel := 0, ep0 := x, phase := ph } :=
  (((h.live_epSelect .ctl).live_setEp hx).inv_setPhase hp : Inv (setPhase ph ((epSelect .ctl s).setEp .ctl x)))

theorem Live.ensures_stallPath {s : State} (h : Live s) : Ensures (stallPath s) fun _ => Inv := by
  rw [stallPath_eq]
  exact h.inv_path h.ep0Ok.stalled phaseOk_bulkOut

theorem Live.ensures_controlPath {s : State} (h : Live s) (q : SetupRequest) {r : Reply} (hr : ReplyOk r) :
    Ensures (controlPath q r s) fun _ => Inv := by
  unfold controlPath
  split
  next resp _ =>
    refine h.inv_setPhase (phaseOk_inData (Nat.zero_le _) ?_ (hr resp rfl))
    rw [lengthLimit_toNat]
    exact Nat.min_le_left _ _
  next => exact h.ensures_stallPath
  next => exact h.ensures_stallPath
  next => rw [controlWritePath_eq]; exact h.inv_path h.ep0Ok.commit phaseOk_bulkOut
  next => rw [addressPath_eq]; exact h.inv_path h.ep0Ok.commit phaseOk_addrWait
  next => exact h.ensures_stallPath

/-! ## The handlers (R89 to R112) -/

theorem length_stringDescriptor (u : List Word) : (stringDescriptor u).length = stringLength u := by
  have units : (u.flatMap bytes16).length = 2 * u.length := by
    induction u with
    | nil => rfl
    | cons w u ih => simp only [List.flatMap_cons, List.length_append, ih, List.length_cons, bytes16,
        List.length_nil]; omega
  simp [stringDescriptor, stringLength, units]; omega

theorem length_rom (p : Params) :
    (rom p).length = 0x36 + stringLength p.strProduct + stringLength p.strSerial := by
  rw [rom, List.length_append, List.length_append, length_stringDescriptor, length_stringDescriptor]
  rfl

/-- Every descriptor lies in the ROM and has at most 255 bytes (R10, R52, R56). -/
theorem lookup_in_rom {p : Params} (hwf : p.wf = true) {type index : Byte} {off len : Nat}
    (h : lookup p type index = some (off, len)) : off + len ≤ (rom p).length ∧ len ≤ 255 := by
  obtain ⟨-, -, -, -, hproduct, hserial⟩ := params_facts hwf
  rw [length_rom]
  unfold lookup at h
  split_ifs at h <;> cases h <;> omega

theorem Live.ensures_getDescriptor {s : State} (h : Live s) (f : Fields) :
    Ensures (handleGetDescriptor f s) fun r t => Live t ∧ ReplyOk r := by
  unfold handleGetDescriptor
  split
  · exact ⟨h, nofun⟩
  · split
    next => exact ⟨h, nofun⟩
    next off len hl =>
      obtain ⟨hin, hlen⟩ := lookup_in_rom h.wf hl
      rw [memRead, if_pos hin, bind_ok]
      refine ⟨h, ?_⟩
      rintro _ ⟨⟩
      exact (List.length_take_le _ _).trans hlen

theorem Live.ensures_setConfiguration {s : State} (h : Live s) (f : Fields) :
    Ensures (handleSetConfiguration f s) fun r t => Live t ∧ ReplyOk r := by
  have stored : Live { s with cfg := { s.cfg with cfgValue := configValue f } } := ⟨h.wf, h.inv.of_same, h.running⟩
  refine (stored.ensures_epConfigureOrRaise .bulkIn Config.bulkSize).bind fun _ _ h1 => ?_
  refine (h1.ensures_epConfigureOrRaise .bulkOut Config.bulkSize).bind fun _ _ h2 => ?_
  exact ⟨h2, by rintro _ ⟨⟩; exact Nat.zero_le _⟩

/-- Every other handler writes nothing the invariant reads, and answers at most two bytes. -/
theorem Live.ensures_handlerOf {s : State} (h : Live s) (q : SetupRequest) (i : Instr) :
    Ensures (handlerOf q i s) fun r t => Live t ∧ ReplyOk r := by
  cases i with
  | getDescriptor f => exact h.ensures_getDescriptor f
  | setConfiguration f => exact h.ensures_setConfiguration f
  | getStatus f =>
    obtain ⟨d, -, -, -, -, -⟩ := f
    cases d
    · exact ⟨h, nofun⟩
    · exact ⟨h, by rintro _ ⟨⟩; decide⟩
  | setAddress f =>
    obtain ⟨d, -, -, -, -, -⟩ := f
    cases d
    · exact ⟨⟨h.wf, h.inv.of_same, h.running⟩, nofun⟩
    · exact ⟨h, nofun⟩
  | vOther code f => exact ⟨⟨h.wf, h.inv.of_same, h.running⟩, by rintro _ ⟨⟩; exact Nat.zero_le _⟩
  | _ => exact ⟨h, by rintro _ ⟨⟩ <;> simp [Config.eepromWord]⟩

/-- The capture step of any request keeps the invariant (R75 to R78). -/
theorem Live.ensures_serve {s : State} (h : Live s) (q : SetupRequest) (i : Instr) :
    Ensures (serve q (handlerOf q i) s) fun _ => Inv := by
  have captured : Live (capturedState q s) :=
    ⟨h.wf, Inv.of_same (h.inv.inv_setEp h.ep0Ok.captured : Inv (s.setEp .ctl _)), h.running⟩
  rw [serve_eq]
  exact (captured.ensures_handlerOf q i).bind fun r t ⟨ht, hr⟩ => ht.ensures_controlPath q hr

end Sys2Proof.Safety
end

section
/-! SUPPORT. The sequencer's own rows, the events and startup keep the invariant, and with them every step. -/

namespace Sys2Proof.Safety

open Sys2Proof.Machine

/-! ## The control rows (R75, R80 to R83) -/

theorem Live.ensures_goto {s : State} (h : Live s) {ph : Phase} (hp : PhaseOk ph) :
    Ensures (.ok () (setPhase ph (epSelect .ctl s))) fun _ => Inv :=
  (h.live_epSelect .ctl).inv_setPhase hp

theorem Live.inv_execCtlPoll {s t : State} (h : Live s) (hs : s.ep0.rxstp = false) (ht : execCtlPoll s = .next t) :
    Inv t := by
  rw [execCtlPoll_eq, hs] at ht
  cases ht
  exact (h.ensures_goto phaseOk_bulkOut).inv

/-- The progress after a chunk stays in range (R88). -/
theorem phaseOk_afterChunk {src : List Byte} {total sent : Word} (h : PhaseOk (.inData src total sent)) :
    PhaseOk (afterChunk src total sent (chunkSize total sent)) := by
  obtain ⟨h1, h2, h3⟩ := h.2 _ _ _ rfl
  have hle := sent_add_chunkSize_le h1
  unfold afterChunk
  split
  · refine phaseOk_inData ?_ h2 h3
    rw [BitVec.toNat_ofNat]
    exact (Nat.mod_le _ _).trans hle
  · exact phaseOk_inStatus

theorem Live.inv_execInData {s t : State} {src : List Byte} {total sent : Word} (h : Live s)
    (hp : PhaseOk (.inData src total sent)) (ht : execInData src total sent s = .next t) : Inv t := by
  rw [execInData_eq] at ht
  cases ht
  refine Ensures.inv ?_
  split
  · exact h.ensures_goto phaseOk_bulkOut
  · split
    · exact h.ensures_goto phaseOk_inStatus
    · split
      next hready =>
        obtain ⟨h1, h2, -⟩ := hp.2 _ _ _ rfl
        have packet : ((src.drop sent.toNat).take (chunkSize total sent)).length ≤ 64 :=
          (List.length_take_le _ _).trans (chunkSize_le _ _)
        rw [sendChunk_eq (h.endpointOf_epSelect .ctl) hready h.inv.ctl.inBank.clean rfl h1 h2]
        exact ((h.live_epSelect .ctl).live_setEp (h.ep0Ok.send hready packet)).inv_setPhase (phaseOk_afterChunk hp)
      · exact h.inv

theorem Live.ensures_completeStatus {s : State} (h : Live s) (hs : s.ep0.rxstp = false) :
    Ensures (completeStatus (epSelect .ctl s)) fun _ => Inv := by
  have released := (h.live_epSelect .ctl).live_setEp (h.ep0Ok.released fun _ => hs)
  have hsel := h.endpointOf_epSelect .ctl
  rw [completeStatus, epRelease_eq hsel, bind_ok, epCommit_eq (e := .ctl) (by exact hsel)]
  exact (released.live_setEp released.ep0Ok.commit).inv_setPhase phaseOk_bulkOut

theorem Live.inv_execInStatus {s t : State} (h : Live s) (ht : execInStatus s = .next t) : Inv t := by
  rw [execInStatus_eq] at ht
  cases ht
  refine Ensures.inv ?_
  split
  · exact h.ensures_goto phaseOk_bulkOut
  next hs =>
    split
    · exact h.ensures_completeStatus (by simpa using hs)
    · exact h.inv

theorem Live.live_latchAddress {s : State} (h : Live s) : Live (latchAddress s) := by
  unfold latchAddress
  split
  · exact ⟨h.wf, h.inv.of_same, h.running⟩
  · exact h

theorem Live.inv_execAddrWait {s t : State} (h : Live s) (ht : execAddrWait s = .next t) : Inv t := by
  rw [execAddrWait_eq] at ht
  cases ht
  refine Ensures.inv ?_
  split
  · exact h.ensures_goto phaseOk_bulkOut
  · split
    · exact (h.live_epSelect .ctl).live_latchAddress.inv_setPhase phaseOk_bulkOut
    · exact h.inv

/-! ## The relay's rows (R114, R118) -/

theorem Live.live_relayByte {s : State} {e : EpId} (h : Live s) (hsel : endpointOf s.params s.sel = some e) (b : Byte) :
    Live (relayByte b s) ∧ endpointOf (relayByte b s).params (relayByte b s).sel = some e := by
  have classed : Live (classify b (relayLast b s)) := by
    refine ⟨?_, h.inv.inv_classify b, ?_⟩ <;> rw [classify_relayLast]
    · exact h.wf
    · exact h.running
  have selection : endpointOf (classify b (relayLast b s)).params (classify b (relayLast b s)).sel = some e := by
    rw [classify_relayLast]; exact hsel
  unfold relayByte relayForward
  split
  · exact ⟨⟨classed.wf, classed.inv.of_same, classed.running⟩, selection⟩
  · exact ⟨classed, selection⟩

theorem Live.live_relayed {e : EpId} (bs : List Byte) :
    ∀ {s : State}, Live s → endpointOf s.params s.sel = some e →
      let t := bs.foldl (fun t b => relayByte b t) s
      Live t ∧ endpointOf t.params t.sel = some e := by
  induction bs with
  | nil => exact fun h hsel => ⟨h, hsel⟩
  | cons b bs ih =>
    intro s h hsel
    obtain ⟨h', hsel'⟩ := h.live_relayByte hsel b
    exact ih h' hsel'

/-- Reading the whole bank never raises, because it holds at most one packet (R120). -/
theorem Live.ensures_readBank {s : State} (h : Live s) (hsel : endpointOf s.params s.sel = some .bulkOut) :
    Ensures ((epAvail s).bind fun k s =>
      if Config.bulkSize < k.toNat then raise .invariantViolation s
      else (relayBytes k.toNat s).bind fun _ s => epRelease s) fun _ => Live := by
  have bank : EpOk .bulkOut (s.ep .bulkOut) := h.inv.epOk .bulkOut
  have size : (s.ep .bulkOut).outBuf.length ≤ 64 := h.inv.bulk.bank_size
  have count : (BitVec.ofNat 8 (s.ep .bulkOut).outBuf.length).toNat = (s.ep .bulkOut).outBuf.length := by
    rw [BitVec.toNat_ofNat]; omega
  obtain ⟨relayed, hsel'⟩ := (h.live_setEp bank.emptied).live_relayed (s.ep .bulkOut).outBuf (e := .bulkOut) hsel
  rw [epAvail_eq hsel, bind_ok, count, if_neg (by simpa [Config.bulkSize] using size),
    relayBytes_ok _ hsel rfl, bind_ok, epRelease_eq hsel']
  exact relayed.live_setEp ((relayed.inv.epOk .bulkOut).released nofun)

theorem Live.inv_execBulkOut {s t : State} (h : Live s) (ht : execBulkOut s = .next t) : Inv t := by
  rw [execBulkOut, epFlags_eq (h.endpointOf_epSelect .bulkOut), bind_ok] at ht
  cases ht
  refine (Ensures.bind (P := fun _ => Live) ?_ fun _ _ h' => ensures_ok.mpr (h'.inv_setPhase phaseOk_bulkIn)).inv
  split
  · exact (h.live_epSelect .bulkOut).ensures_readBank (h.endpointOf_epSelect .bulkOut)
  · exact h.live_epSelect .bulkOut

/-- A pending item has its bytes: the banner always, an echo by the invariant (R10, R21). -/
theorem Live.payload_of_pending {s : State} (h : Live s) (hp : s.relay.pending ≠ .none) :
    ∃ bs, payload s = some bs ∧ bs.length ≤ 62 := by
  obtain ⟨-, -, -, banner, -, -⟩ := params_facts h.wf
  unfold payload
  split
  next => exact ⟨_, rfl, banner⟩
  next hecho =>
    obtain ⟨b, hb⟩ := Option.ne_none_iff_exists'.mp (h.inv.echo_has_byte hecho)
    exact ⟨[b], by rw [hb]; rfl, by simp⟩
  next hnone => exact absurd hnone hp

theorem Live.ensures_sendItem {s : State} (h : Live s) (hsel : endpointOf s.params s.sel = some .bulkIn)
    (hp : s.relay.pending ≠ .none) (ht : s.epIn.txrdy = true) : Ensures (sendItem s) fun _ => Live := by
  obtain ⟨bs, hbs, hl⟩ := h.payload_of_pending hp
  have bank : EpOk .bulkIn s.epIn := h.inv.epOk .bulkIn
  have sent := h.live_setEp (bank.send ht (bs := Config.status0 :: Config.status1 :: bs)
    (by simp only [List.length_cons]; omega))
  rw [sendItem_eq hsel ht h.inv.bulk.inBank.clean rfl hbs hl]
  exact ⟨sent.wf, sent.inv.inv_setRelay nofun, sent.running⟩

theorem Live.inv_execBulkIn {s t : State} (h : Live s) (ht : execBulkIn s = .next t) : Inv t := by
  rw [execBulkIn, epFlags_eq (h.endpointOf_epSelect .bulkIn), bind_ok] at ht
  cases ht
  refine (Ensures.bind (P := fun _ => Live) ?_ fun _ _ h' => ensures_ok.mpr (h'.inv_setPhase phaseOk_ctlPoll)).inv
  split
  next hitem => exact (h.live_epSelect .bulkIn).ensures_sendItem (h.endpointOf_epSelect .bulkIn) hitem.1 hitem.2
  · exact h.live_epSelect .bulkIn

/-! ## The sequencer's turn -/

/-- At CtlPoll with a SETUP the bank's eight bytes are a request, which is served; else the phase says the row. -/
theorem Live.inv_sequencer {s t : State} {i : Instr} (h : Live s) (hi : fetch s = some i)
    (ht : exec i s = .next t) : Inv t := by
  by_cases hsetup : s.phase = .ctlPoll ∧ s.ep0.rxstp = true
  · obtain ⟨hp, hs⟩ := hsetup
    obtain ⟨j, q, hj, hq⟩ := decodeSetup_of_length s.params (h.inv.ctl.setup_bytes hs)
    cases (fetch_of_setup h.running hp hs hj).symm.trans hi
    rw [exec_of_request hq] at ht
    cases ht
    exact (h.ensures_serve q i).inv
  · have idle : s.phase = .ctlPoll → s.ep0.rxstp = false := fun hp => by simpa [hp] using hsetup
    rw [fetch_eq_phaseRow h.running idle] at hi
    cases hp : s.phase <;> rw [hp] at hi <;> cases hi
    · exact h.inv_execCtlPoll (idle hp) ht
    next src total sent =>
      obtain ⟨h1, h2, h3⟩ := h.inv.progress src total sent hp
      exact h.inv_execInData (phaseOk_inData h1 h2 h3) ht
    · exact h.inv_execInStatus ht
    · exact h.inv_execAddrWait ht
    · exact h.inv_execBulkOut ht
    · exact h.inv_execBulkIn ht

/-! ## The events (R128 to R134) -/

section
variable {s t : State} (h : Inv s)
include h

theorem Inv.inv_hostInAt (a : Addr) (e : EpId) : Inv (hostInAt a e s) := by
  obtain ⟨w, hc | ⟨ha, hc⟩⟩ := hostInAt_cases a e s <;> rw [hc]
  · exact h.of_same
  · exact (Inv.of_same h).inv_setEp ((h.epOk e).taken ha)

theorem Inv.inv_hostOutAt (a : Addr) (e : EpId) {p : List Byte} (hl : p.length ≤ 64) : Inv (hostOutAt a e p s) := by
  obtain ⟨w, hc | ⟨ha, hs, hc⟩⟩ := hostOutAt_cases a e p s <;> rw [hc]
  · exact h.of_same
  · refine (Inv.of_same h).inv_setEp ((h.epOk e).filled ha ?_ hl)
    rintro rfl
    exact hs rfl

theorem Inv.inv_endOfReset : Inv (endOfReset s) := by
  have disarmed := (h.inv_setEp (epOk_disarmed (e := .bulkIn) nofun)).inv_setEp (epOk_disarmed (e := .bulkOut) nofun)
  exact disarmed.of_same

theorem Inv.inv_execBusReset (ht : execBusReset s = .next t) : Inv t := by
  obtain hc | ⟨as, m, hc | hc⟩ := execBusReset_cases s <;> cases hc.symm.trans ht
  · exact h
  · have armed := (Inv.of_same h.inv_endOfReset : Inv { endOfReset s with cfgAnswers := as, cfgDraws := m }).inv_setEp
      (epOk_configured .ctl)
    exact armed.of_same
  · exact (Inv.of_same h.inv_endOfReset).inv_raiseFault

/-- Every well-formed event keeps the invariant, in the fault state too. -/
theorem Inv.inv_event {e : Event} (hok : wellFormed s.params e.instr = true) (ht : exec e.instr s = .next t) :
    Inv t := by
  cases e with
  | hostSetup a p =>
    have arrived : EpOk .ctl (s.ep0.setupArrived p.toList) := (h.epOk .ctl).setupArrived (by simp)
    obtain hc | ⟨w, hc | hc⟩ := execHostSetup_cases a p s <;> cases hc.symm.trans ht
    · exact h
    · exact h.of_same
    · exact (h.inv_setEp arrived).of_same
  | hostIn a e =>
    cases ht
    split
    · exact h
    · exact h.inv_hostInAt a _
  | hostOut a e p =>
    have packet : p.length ≤ 64 := by cases e <;> exact of_decide_eq_true hok
    cases ht
    split
    · exact h
    · exact h.inv_hostOutAt a _ packet
  | busReset => exact h.inv_execBusReset ht
  | vbusOn => obtain ⟨c, d, hc⟩ := execVbusOn_frame s; cases hc.symm.trans ht; exact h.of_same
  | vbusOff => obtain ⟨c, d, hc⟩ := execVbusOff_frame s; cases hc.symm.trans ht; exact h.of_same
  | serialRx b =>
    obtain hc | hc := execSerialRx_cases b s <;> cases hc.symm.trans ht
    · exact h
    · exact h.inv_classify b

end

/-! ## Startup, and the whole step -/

/-- Startup leaves R34's values, with endpoint 0 configured or the raise taken (R146). -/
theorem inv_powerOn (s : State) : Inv (powerOn s) := by
  have values := inv_powerOnValues s
  unfold powerOn
  obtain ⟨as, m, hc | hc⟩ := epConfigureOrRaise_cases .ctl .control Config.ep0Size (powerOnValues s) <;> rw [hc]
  · have armed := (Inv.of_same values : Inv { powerOnValues s with cfgAnswers := as, cfgDraws := m }).inv_setEp
      (epOk_configured .ctl)
    exact armed.inv_setPhase rfl phaseOk_ctlPoll
  · exact (Inv.of_same values).inv_raiseFault

/-- Settles O55, turn by turn: the sequencer has one only without a fault, events need no such hypothesis, and
startup begins anew. -/
theorem stepKeepsTheInvariant : Obligations.StepKeepsTheInvariant := by
  intro s t hinv hstep
  have chosen : Inv (afterChoice s) := hinv.of_same
  obtain ⟨hwf, ⟨i, hi, ht⟩ | ⟨e, hok, ht⟩ | ⟨-, rfl⟩⟩ := step_cases hstep
  · have running : s.fault = none := by
      by_contra hf
      obtain ⟨c, hc⟩ := Option.ne_none_iff_exists'.mp hf
      rw [fetch_of_fault hc] at hi
      cases hi
    have live : Live (afterChoice s) := ⟨hwf, chosen, running⟩
    exact live.inv_sequencer hi ht
  · exact chosen.inv_event hok ht
  · exact inv_powerOn _

end Sys2Proof.Safety
end

section
/-! SUPPORT. What no instruction reads: the outputs (10_state.md R23) and, but for the two power events, the
connection state (R20). An operation is blind to them when another value of them passes through it. -/

namespace Sys2Proof.Machine

/-! ## The veil -/

/-- Outputs put before the machine's own, and another connection state. -/
structure Veil where
  wire : List WireEntry
  diag : List DiagEvent
  serialOut : List Byte
  conn : Conn → Conn

/-- The state as the veil shows it. -/
def Veil.over (v : Veil) (s : State) : State :=
  { s with
    wire := v.wire ++ s.wire
    diag := v.diag ++ s.diag
    serialOut := v.serialOut ++ s.serialOut
    conn := v.conn s.conn }

/-- The same answer over another state. -/
def Res.mapState {α : Type} (g : State → State) : Res α → Res α
  | .ok a s => .ok a (g s)
  | .raised s => .raised (g s)

theorem state_mapState {α : Type} (g : State → State) (r : Res α) : (r.mapState g).state = g r.state := by
  cases r <;> rfl

/-- An update that the veil passes through. -/
def Transparent (f : State → State) : Prop := ∀ (v : Veil) (s : State), f (v.over s) = v.over (f s)

/-- An operation that the veil passes through. -/
def Blind {α : Type} (f : State → Res α) : Prop := ∀ (v : Veil) (s : State), f (v.over s) = (f s).mapState v.over

/-- A meaning that the veil passes through. -/
def BlindMeaning (f : State → Host.Outcome State Fault Refusal) : Prop :=
  ∀ (v : Veil) (s t : State), f s = .next t → f (v.over s) = .next (v.over t)

/-- A value of the state that the veil does not change. -/
def Unveiled {α : Type} (a : State → α) : Prop := ∀ (v : Veil) (s : State), a (v.over s) = a s

@[simp] theorem ep_over (v : Veil) (s : State) (e : EpId) : (v.over s).ep e = s.ep e := by
  cases e <;> rfl

/-! ## Updates -/

theorem transparent_id : Transparent fun s => s := fun _ _ => rfl
theorem transparent_setPhase (ph : Phase) : Transparent (setPhase ph) := fun _ _ => rfl
theorem transparent_epSelect (e : EpId) : Transparent (epSelect e) := fun _ _ => rfl
theorem transparent_relayTrigger : Transparent relayTrigger := fun _ _ => rfl
theorem transparent_relayEcho : Transparent relayEcho := fun _ _ => rfl
theorem transparent_relayLast (b : Byte) : Transparent (relayLast b) := fun _ _ => rfl
theorem transparent_endOfReset : Transparent endOfReset := fun _ _ => rfl

/-- Outputs are appended to, so what stands before them stays before them. -/
theorem transparent_emitWire {w : State → WireEntry} (hw : Unveiled w) : Transparent fun s => emitWire (w s) s :=
  fun v s => by dsimp only; rw [hw v s]; simp [emitWire, Veil.over]

theorem transparent_emitDiag (d : DiagEvent) : Transparent (emitDiag d) :=
  fun v s => by simp [emitDiag, Veil.over]

theorem transparent_emitSerial (b : Byte) : Transparent (emitSerial b) :=
  fun v s => by simp [emitSerial, Veil.over]

theorem transparent_raiseFault (c : FaultCode) : Transparent (raiseFault c) :=
  fun v s => by simp [raiseFault, Veil.over]

/-- An update of one endpoint by what it holds. -/
theorem transparent_setEp (e : EpId) (g : Endpoint → Endpoint) : Transparent fun s => s.setEp e (g (s.ep e)) :=
  fun v s => by cases e <;> rfl

theorem Transparent.comp {f g : State → State} (hf : Transparent f) (hg : Transparent g) :
    Transparent fun s => f (g s) :=
  fun v s => (congrArg f (hg v s)).trans (hf v (g s))

theorem Transparent.ite {c : State → Prop} [DecidablePred c] {f g : State → State} (hc : Unveiled c)
    (hf : Transparent f) (hg : Transparent g) : Transparent fun s => if c s then f s else g s := by
  intro v s
  simp only [hc v s, hf v s, hg v s]
  split <;> rfl

theorem transparent_latchAddress : Transparent latchAddress := by
  intro v s
  cases h : s.pendAddr <;> simp [latchAddress, Veil.over, h]

theorem transparent_classify (b : Byte) : Transparent (classify b) :=
  .ite (fun _ _ => rfl) transparent_relayTrigger transparent_relayEcho

theorem transparent_relayForward (b : Byte) : Transparent (relayForward b) := by
  intro v s
  have hp : (v.over s).params = s.params := rfl
  unfold relayForward
  rw [hp]
  cases s.params.serialTxOnOut
  · rfl
  · exact transparent_emitSerial b v s

theorem transparent_relayByte (b : Byte) : Transparent (relayByte b) :=
  (transparent_relayForward b).comp ((transparent_classify b).comp (transparent_relayLast b))

/-! ## Sequencing -/

section
variable {α β : Type}

theorem Transparent.blind {f : State → State} (hf : Transparent f) (a : α) : Blind fun s => .ok a (f s) :=
  fun v s => congrArg (Res.ok a) (hf v s)

/-- Reading what the veil does not change. -/
theorem Unveiled.blind {a : State → α} (ha : Unveiled a) : Blind fun s => .ok (a s) s :=
  fun v s => congrArg (Res.ok · (v.over s)) (ha v s)

theorem blind_raise (c : FaultCode) : Blind (raise c : State → Res α) :=
  fun v s => by rw [raise, transparent_raiseFault c v s]; rfl

theorem Blind.bind {f : State → Res α} {k : α → State → Res β} (hf : Blind f) (hk : ∀ a, Blind (k a)) :
    Blind fun s => (f s).bind k := by
  intro v s
  dsimp only
  rw [hf v s]
  cases f s with
  | ok a t => exact hk a v t
  | raised t => rfl

theorem Blind.comp {f : State → Res α} {g : State → State} (hf : Blind f) (hg : Transparent g) :
    Blind fun s => f (g s) :=
  fun v s => (congrArg f (hg v s)).trans (hf v (g s))

theorem Blind.ite {c : State → Prop} [DecidablePred c] {f g : State → Res α} (hc : Unveiled c) (hf : Blind f)
    (hg : Blind g) : Blind fun s => if c s then f s else g s := by
  intro v s
  simp only [hc v s, hf v s, hg v s]
  split <;> rfl

end

theorem Blind.answer {f : State → Res Unit} (hf : Blind f) : BlindMeaning fun s => answer (f s) := by
  rintro v s _ ⟨⟩
  exact congrArg Host.Outcome.next ((congrArg Res.state (hf v s)).trans (state_mapState v.over (f s)))

theorem Transparent.next {f : State → State} (hf : Transparent f) : BlindMeaning fun s => .next (f s) := by
  rintro v s _ ⟨⟩
  exact congrArg Host.Outcome.next (hf v s)

/-! ## The window (20_memory.md R35 to R47) -/

theorem blind_selected : Blind selected := by
  intro v s
  unfold selected
  change (match endpointOf s.params s.sel with
    | some e => Res.ok e (v.over s)
    | none => raise .invariantViolation (v.over s)) = _
  cases endpointOf s.params s.sel with
  | some e => rfl
  | none => exact blind_raise _ v s

theorem blind_updateSelected (g : Endpoint → Endpoint) :
    Blind fun s => (selected s).bind fun e s => .ok () (s.setEp e (g (s.ep e))) :=
  blind_selected.bind fun e => (transparent_setEp e g).blind ()

theorem blind_epAvail : Blind epAvail :=
  blind_selected.bind fun e => Unveiled.blind fun v s => by rw [ep_over]

theorem blind_epFlags : Blind epFlags :=
  blind_selected.bind fun e => Unveiled.blind fun v s => by rw [ep_over]

theorem blind_epReadByte : Blind epReadByte := by
  refine blind_selected.bind fun e v s => ?_
  dsimp only
  rw [ep_over]
  cases (s.ep e).outBuf with
  | nil => exact blind_raise _ v s
  | cons b rest => exact (transparent_setEp e fun x => { x with outBuf := rest }).blind b v s

theorem blind_epReadWord16LE : Blind epReadWord16LE :=
  blind_epReadByte.bind fun _ => blind_epReadByte.bind fun _ => transparent_id.blind _

theorem blind_epWriteByte (b : Byte) : Blind (epWriteByte b) :=
  blind_selected.bind fun e =>
    .ite (fun v s => by rw [ep_over]) (blind_raise _)
      (.ite (fun v s => by rw [ep_over]) (blind_raise _)
        ((transparent_setEp e fun x => { x with inBuf := x.inBuf ++ [b] }).blind ()))

theorem blind_writeBytes (bs : List Byte) : Blind (writeBytes bs) := by
  induction bs with
  | nil => exact transparent_id.blind ()
  | cons b bs ih => exact (blind_epWriteByte b).bind fun _ => ih

theorem blind_writeSlice (src : List Byte) (n : Nat) : ∀ start, Blind (writeSlice src start n) := by
  induction n with
  | zero => exact fun _ => transparent_id.blind ()
  | succ n ih =>
    intro start v s
    unfold writeSlice
    cases src[start]? with
    | none => exact blind_raise _ v s
    | some b => exact (blind_epWriteByte b).bind (fun _ => ih (start + 1)) v s

theorem blind_epClearSetup : Blind epClearSetup := blind_updateSelected fun x => { x with rxstp := false, outBuf := [] }
theorem blind_epRelease : Blind epRelease := blind_updateSelected fun x => { x with rxout := false, outBuf := [] }
theorem blind_epCommit : Blind epCommit := blind_updateSelected Endpoint.commit
theorem blind_epStall : Blind epStall := blind_updateSelected fun x => { x with stall := true }

theorem drawConfigOk_over (v : Veil) (s : State) :
    drawConfigOk (v.over s) = ((drawConfigOk s).1, v.over (drawConfigOk s).2) := by
  obtain ⟨b, rest, ha, hd⟩ | ⟨ha, hd⟩ := drawConfigOk_cases s <;> rw [hd]
  all_goals simp [drawConfigOk, Veil.over, ha]

theorem blind_epConfigureOrRaise (e : EpId) (k : EpKind) (n : Nat) : Blind (epConfigureOrRaise e k n) := by
  intro v s
  rw [epConfigureOrRaise_eq, epConfigureOrRaise_eq, drawConfigOk_over]
  dsimp only
  split
  · exact (transparent_setEp e fun _ => .configured k).blind () v _
  · exact blind_raise _ v _

theorem blind_memRead (addr n : Nat) : Blind (memRead addr n) :=
  .ite (fun _ _ => rfl) (Unveiled.blind fun _ _ => rfl) (blind_raise _)

/-! ## Requests (40_control_sequencer.md R75 to R84) -/

theorem blind_commitStatus : Blind commitStatus := blind_epCommit.comp (transparent_epSelect .ctl)

theorem blind_controlWritePath : Blind controlWritePath :=
  blind_commitStatus.bind fun _ => (transparent_setPhase .bulkOut).blind ()

theorem blind_addressPath : Blind addressPath :=
  blind_commitStatus.bind fun _ => (transparent_setPhase .addrWait).blind ()

theorem blind_stallPath : Blind stallPath :=
  (blind_epStall.comp (transparent_epSelect .ctl)).bind fun _ => (transparent_setPhase .bulkOut).blind ()

theorem blind_controlPath (q : SetupRequest) (r : Reply) : Blind (controlPath q r) := by
  unfold controlPath
  cases dirOf q.bmRequestType with
  | deviceToHost =>
    cases r with
    | ok resp => exact (transparent_setPhase _).blind ()
    | okAddr => exact blind_stallPath
    | fail => exact blind_stallPath
  | hostToDevice =>
    cases r with
    | ok resp => exact blind_controlWritePath
    | okAddr => exact blind_addressPath
    | fail => exact blind_stallPath

theorem blind_handleGetDescriptor (f : Fields) : Blind (handleGetDescriptor f) := by
  unfold handleGetDescriptor
  cases f.dir with
  | hostToDevice => exact transparent_id.blind _
  | deviceToHost =>
    intro v s
    have hp : (v.over s).params = s.params := rfl
    dsimp only
    rw [hp]
    cases lookup s.params (descType f) (descIndex f) with
    | none => rfl
    | some d => exact ((blind_memRead d.1 d.2).bind fun _ => transparent_id.blind _) v s

theorem blind_handleSetConfiguration (f : Fields) : Blind (handleSetConfiguration f) := by
  have store : Transparent fun s => { s with cfg := { s.cfg with cfgValue := configValue f } } := fun _ _ => rfl
  exact ((blind_epConfigureOrRaise .bulkIn .bulkIn Config.bulkSize).comp store).bind fun _ =>
    (blind_epConfigureOrRaise .bulkOut .bulkOut Config.bulkSize).bind fun _ => transparent_id.blind _

/-- Every other handler answers from the request, the parameters and the stored configuration. -/
theorem blind_handlerOf (q : SetupRequest) (i : Instr) : Blind (handlerOf q i) := by
  cases i with
  | getDescriptor f => exact blind_handleGetDescriptor f
  | setConfiguration f => exact blind_handleSetConfiguration f
  | getStatus f => obtain ⟨d, -, -, -, -, -⟩ := f; cases d <;> exact fun _ _ => rfl
  | setAddress f => obtain ⟨d, -, -, -, -, -⟩ := f; cases d <;> exact fun _ _ => rfl
  | vOther code f => exact (transparent_emitDiag _).blind _
  | _ => exact fun _ _ => rfl

theorem Blind.serve {handler : State → Res Reply} (h : Blind handler) (q : SetupRequest) :
    Blind (serve q handler) := by
  have record : Transparent fun s => { epSelect .ctl s with setup := some q } := fun _ _ => rfl
  exact (blind_epClearSetup.comp record).bind fun _ => h.bind fun r => blind_controlPath q r

theorem blind_dispatch (q : SetupRequest) : Blind (dispatch q) := by
  intro v s
  rw [dispatch_eq_handlerOf, dispatch_eq_handlerOf]
  exact blind_handlerOf q (decodeRequest s.params q) v s

theorem blind_readRequest : Blind readRequest :=
  blind_epReadByte.bind fun _ => blind_epReadByte.bind fun _ => blind_epReadWord16LE.bind fun _ =>
    blind_epReadWord16LE.bind fun _ => blind_epReadWord16LE.bind fun _ => transparent_id.blind _

theorem blind_captureStep : Blind captureStep :=
  (blind_epAvail.comp (transparent_epSelect .ctl)).bind fun _ =>
    .ite (fun _ _ => rfl) (blind_raise _) (blind_readRequest.bind fun q => (blind_dispatch q).serve q)

/-- A request row is the capture step with its handler, and its request is read off the parameters. -/
theorem blindMeaning_of_request {i : Instr} (h : ∀ p, ∃ q, i.request p = some q) : BlindMeaning (exec i) := by
  intro v s t ht
  obtain ⟨q, hq⟩ := h s.params
  rw [exec_of_request hq] at ht
  rw [exec_of_request (s := v.over s) hq]
  exact ((blind_handlerOf q i).serve q).answer v s t ht

/-! ## The sequencer's rows -/

theorem blind_goto (ph : Phase) : Blind fun s => .ok () (setPhase ph (epSelect .ctl s)) :=
  ((transparent_setPhase ph).comp (transparent_epSelect .ctl)).blind ()

theorem blindMeaning_execCtlPoll : BlindMeaning execCtlPoll :=
  ((blind_epFlags.comp (transparent_epSelect .ctl)).bind fun _ =>
    .ite (fun _ _ => rfl) blind_captureStep ((transparent_setPhase .bulkOut).blind ())).answer

theorem blind_sendChunk (src : List Byte) (total sent : Word) : Blind (sendChunk src total sent) :=
  (blind_writeSlice src _ _).bind fun _ => blind_epCommit.bind fun _ => (transparent_setPhase _).blind ()

theorem blind_completeStatus : Blind completeStatus :=
  blind_epRelease.bind fun _ => blind_epCommit.bind fun _ => (transparent_setPhase .bulkOut).blind ()

theorem blindMeaning_execInData (src : List Byte) (total sent : Word) : BlindMeaning (execInData src total sent) := by
  rw [funext (execInData_eq src total sent)]
  exact (Blind.ite (fun _ _ => rfl) (blind_goto .bulkOut) (.ite (fun _ _ => rfl) (blind_goto .inStatus)
    (.ite (fun _ _ => rfl) ((blind_sendChunk src total sent).comp (transparent_epSelect .ctl))
      (transparent_id.blind ())))).answer

theorem blindMeaning_execInStatus : BlindMeaning execInStatus := by
  rw [funext execInStatus_eq]
  exact (Blind.ite (fun _ _ => rfl) (blind_goto .bulkOut) (.ite (fun _ _ => rfl)
    (blind_completeStatus.comp (transparent_epSelect .ctl)) (transparent_id.blind ()))).answer

theorem blindMeaning_execAddrWait : BlindMeaning execAddrWait := by
  have latch : Transparent fun s => setPhase .bulkOut (latchAddress (epSelect .ctl s)) :=
    (transparent_setPhase .bulkOut).comp (transparent_latchAddress.comp (transparent_epSelect .ctl))
  rw [funext execAddrWait_eq]
  exact (Blind.ite (fun _ _ => rfl) (blind_goto .bulkOut) (.ite (fun _ _ => rfl)
    (latch.blind ()) (transparent_id.blind ()))).answer

theorem blind_relayBytes (k : Nat) : Blind (relayBytes k) := by
  induction k with
  | zero => exact transparent_id.blind ()
  | succ k ih => exact blind_epReadByte.bind fun b => ih.comp (transparent_relayByte b)

theorem blindMeaning_execBulkOut : BlindMeaning execBulkOut := by
  refine ((blind_epFlags.comp (transparent_epSelect .bulkOut)).bind fun f => ?_).answer
  refine Blind.bind (.ite (fun _ _ => rfl) ?_ (transparent_id.blind ())) fun _ =>
    (transparent_setPhase .bulkIn).blind ()
  exact blind_epAvail.bind fun k =>
    .ite (fun _ _ => rfl) (blind_raise _) ((blind_relayBytes k.toNat).bind fun _ => blind_epRelease)

theorem blind_writePayload : Blind writePayload := by
  have last : Blind fun s => match s.relay.lastIn with
      | some b => epWriteByte b s
      | none => raise .invariantViolation s := by
    intro v s
    have hl : (v.over s).relay = s.relay := rfl
    dsimp only
    rw [hl]
    cases s.relay.lastIn with
    | none => exact blind_raise _ v s
    | some b => exact blind_epWriteByte b v s
  intro v s
  have hp : (v.over s).relay.pending = s.relay.pending := rfl
  unfold writePayload
  rw [hp]
  cases s.relay.pending with
  | banner => exact blind_writeBytes s.params.banner v s
  | echo => exact last v s
  | none => exact last v s

theorem blind_sendItem : Blind sendItem := by
  have empty : Transparent fun s => { s with relay := { s.relay with pending := .none } } := fun _ _ => rfl
  exact (blind_epWriteByte _).bind fun _ => (blind_epWriteByte _).bind fun _ =>
    blind_writePayload.bind fun _ => blind_epCommit.bind fun _ => empty.blind ()

theorem blindMeaning_execBulkIn : BlindMeaning execBulkIn :=
  ((blind_epFlags.comp (transparent_epSelect .bulkIn)).bind fun _ =>
    (Blind.ite (fun _ _ => rfl) blind_sendItem (transparent_id.blind ())).bind fun _ =>
      (transparent_setPhase .ctlPoll).blind ()).answer

/-! ## The events -/

theorem transparent_hostInAt (a : Addr) (e : EpId) : Transparent (hostInAt a e) := by
  refine .ite (fun v s => by rw [ep_over]; rfl) (transparent_emitWire fun _ _ => rfl)
    (.ite (fun v s => by rw [ep_over]) (transparent_emitWire fun _ _ => rfl) fun v s => ?_)
  dsimp only
  rw [ep_over]
  cases (s.ep e).inQ with
  | none => exact transparent_emitWire (w := fun s => .nak (e.number s.params)) (fun _ _ => rfl) v s
  | some q =>
    have emitted := transparent_emitWire (w := fun s => .inData (e.number s.params) q) (fun _ _ => rfl)
    have taken := (transparent_setEp e fun x => { x with inQ := none, txrdy := true }).comp emitted v s
    simpa using taken

theorem transparent_hostOutAt (a : Addr) (e : EpId) (p : List Byte) : Transparent (hostOutAt a e p) := by
  have emitted := transparent_emitWire (w := fun s => .outAck (e.number s.params) p.length) (fun _ _ => rfl)
  have filled : Transparent fun s => (emitWire (.outAck (e.number s.params) p.length) s).setEp e
      { s.ep e with outBuf := p, rxout := true } := fun v s => by
    simpa using (transparent_setEp e fun x => { x with outBuf := p, rxout := true }).comp emitted v s
  exact .ite (fun v s => by rw [ep_over]; rfl) (transparent_emitWire fun _ _ => rfl)
    (.ite (fun v s => by rw [ep_over]) (transparent_emitWire fun _ _ => rfl)
      (.ite (fun v s => by rw [ep_over]; rfl) (transparent_emitWire fun _ _ => rfl) filled))

theorem blindMeaning_execHostSetup (a : Addr) (p : Vector Byte 8) : BlindMeaning (execHostSetup a p) := by
  have arrived := (transparent_emitWire (w := fun _ => .setupAck p.toList) fun _ _ => rfl).comp
    (transparent_setEp .ctl fun x => x.setupArrived p.toList)
  exact (Transparent.ite (fun _ _ => rfl) transparent_id
    (.ite (fun _ _ => rfl) (transparent_emitWire fun _ _ => rfl) arrived)).next

theorem blindMeaning_execBusReset : BlindMeaning execBusReset :=
  (Blind.ite (fun _ _ => rfl) (transparent_id.blind ())
    (((blind_epConfigureOrRaise .ctl .control Config.ep0Size).comp transparent_endOfReset).bind fun _ =>
      (transparent_emitWire fun _ _ => rfl).blind ())).answer

theorem transparent_serialRx (b : Byte) : Transparent fun s =>
    match s.params.serialRxMode with
    | .classify => classify b (relayLast b s)
    | .ignored => s := by
  intro v s
  have hp : (v.over s).params = s.params := rfl
  dsimp only
  rw [hp]
  cases s.params.serialRxMode
  · rfl
  · exact (transparent_classify b).comp (transparent_relayLast b) v s

/-! ## The rows -/

/-- No instruction but the two power events sees what the veil covers. -/
theorem blindMeaning_exec {i : Instr} (hon : i ≠ .vbusOn) (hoff : i ≠ .vbusOff) : BlindMeaning (exec i) := by
  cases i with
  | bulkTrigger => exact transparent_relayTrigger.next
  | bulkEcho b => exact transparent_relayEcho.next
  | ctlPoll => exact blindMeaning_execCtlPoll
  | setupCapture => exact blind_captureStep.answer
  | inData src total sent => exact blindMeaning_execInData src total sent
  | inStatus => exact blindMeaning_execInStatus
  | controlWrite => exact blind_controlWritePath.answer
  | addrWait => exact blindMeaning_execAddrWait
  | stall => exact blind_stallPath.answer
  | bulkOut => exact blindMeaning_execBulkOut
  | serialForward b => exact (transparent_relayForward b).next
  | bulkIn => exact blindMeaning_execBulkIn
  | hostSetup a p => exact blindMeaning_execHostSetup a p
  | hostIn a e => exact (Transparent.ite (fun _ _ => rfl) transparent_id (transparent_hostInAt a (inPipeEp e))).next
  | hostOut a e p =>
    exact (Transparent.ite (fun _ _ => rfl) transparent_id (transparent_hostOutAt a (outPipeEp e) p)).next
  | busReset => exact blindMeaning_execBusReset
  | vbusOn => exact absurd rfl hon
  | vbusOff => exact absurd rfl hoff
  | serialRx b => exact (transparent_serialRx b).next
  | _ => exact blindMeaning_of_request fun _ => ⟨_, rfl⟩

/-- The power events read the connection state, but no output. -/
theorem exec_vbusOn_over {v : Veil} (hv : v.conn = id) {s t : State} :
    exec .vbusOn s = .next t → exec .vbusOn (v.over s) = .next (v.over t) := by
  rintro ⟨⟩
  cases hc : s.conn <;> simp [exec, execVbusOn, Veil.over, emitDiag, hv, hc]

theorem exec_vbusOff_over {v : Veil} (hv : v.conn = id) {s t : State} :
    exec .vbusOff s = .next t → exec .vbusOff (v.over s) = .next (v.over t) := by
  rintro ⟨⟩
  cases hc : s.conn <;> simp [exec, execVbusOff, Veil.over, emitDiag, hv, hc]

/-- Settles O58: outputs alone before the machine's own. -/
theorem outputsAreNeverRead : Obligations.OutputsAreNeverRead := by
  intro i s t w d o ht
  by_cases hon : i = .vbusOn
  · subst hon
    exact exec_vbusOn_over (v := ⟨w, d, o, id⟩) rfl ht
  · by_cases hoff : i = .vbusOff
    · subst hoff
      exact exec_vbusOff_over (v := ⟨w, d, o, id⟩) rfl ht
    · exact blindMeaning_exec hon hoff ⟨w, d, o, id⟩ s t ht

/-- Settles O59: another connection state and no further output. -/
theorem connectionStateGatesNothing : Obligations.ConnectionStateGatesNothing := by
  intro i s t c hon hoff ht
  exact blindMeaning_exec hon hoff ⟨[], [], [], fun _ => c⟩ s t ht

end Sys2Proof.Machine
end

section
/-! SUPPORT. The endpoint window's primitives as the rules say them (20_memory.md R36 to R47), in the statements' own
words: what a raise leaves, a word's two bytes, and the packet size of every endpoint. -/

namespace Sys2Proof.Machine

open Sys2Proof.Claims

/-! ## The statements' words for the model's -/

/-- A raise leaves the state that the statements call faulted (R22, R124). -/
theorem raise_eq_faulted {α : Type} (c : FaultCode) (s : State) : (raise c s : Res α) = .raised (faulted c s) := by
  cases hf : s.fault <;> simp [raise, raiseFault, faulted, hf]

theorem commit_eq_committed (x : Endpoint) : x.commit = committed x := rfl

/-- R43: `rxstp` reads false on every endpoint but 0. -/
theorem flagsOf_eq (e : EpId) (x : Endpoint) : flagsOf e x = ⟨decide (e = .ctl) && x.rxstp, x.rxout, x.txrdy⟩ := by
  cases e <;> rfl

/-- Every bank has 64 bytes (R9, R41). -/
theorem size_eq (e : EpId) : e.size = 64 := by
  cases e <;> rfl

/-! ## A word and its bytes (R40, R42) -/

theorem toNat_le16 (lo hi : Byte) : (le16 lo hi).toNat = 256 * hi.toNat + lo.toNat := by
  rw [le16, BitVec.toNat_append, ← Nat.shiftLeft_add_eq_or_of_lt lo.isLt, Nat.shiftLeft_eq]
  omega

theorem lo8_eq_ofNat (w : Word) : lo8 w = BitVec.ofNat 8 w.toNat := by
  apply BitVec.eq_of_toNat_eq
  simp [lo8]

theorem hi8_eq_ofNat (w : Word) : hi8 w = BitVec.ofNat 8 (w.toNat / 256) := by
  apply BitVec.eq_of_toNat_eq
  simp [hi8, Nat.shiftRight_eq_div_pow]

/-! ## Reads and writes of a word -/

section
variable {s : State} {e : EpId} (h : endpointOf s.params s.sel = some e)
include h

theorem epReadWord16LE_cons {lo hi : Byte} {rest : List Byte} (hb : (s.ep e).outBuf = lo :: hi :: rest) :
    epReadWord16LE s = .ok (le16 lo hi) (s.setEp e { s.ep e with outBuf := rest }) := by
  rw [epReadWord16LE, epReadByte_cons h hb, bind_ok,
    epReadByte_cons (e := e) (b := hi) (rest := rest) (by simpa using h) (by simp), bind_ok, ep_setEp_same, setEp_setEp]

theorem epWriteByte_blocked (v : Byte) (hb : (s.ep e).txrdy = false ∨ (s.ep e).inBuf.length = 64) :
    epWriteByte v s = .raised (faulted .invariantViolation s) := by
  rw [← raise_eq_faulted]
  obtain busy | full := hb
  · exact epWriteByte_busy h v busy
  · exact epWriteByte_full h v (full.trans (size_eq e).symm)

theorem epWriteByte_free (v : Byte) (ht : (s.ep e).txrdy = true) (hl : (s.ep e).inBuf.length ≠ 64) :
    epWriteByte v s = .ok () (s.setEp e { s.ep e with inBuf := (s.ep e).inBuf ++ [v] }) :=
  epWriteByte_ok h v ht (by rwa [size_eq])

theorem epWriteWord16LE_blocked (w : Word) (hb : (s.ep e).txrdy = false ∨ (s.ep e).inBuf.length = 64) :
    epWriteWord16LE w s = .raised (faulted .invariantViolation s) := by
  rw [epWriteWord16LE, epWriteByte_blocked h _ hb, bind_raised]

/-- With its low byte written, a word's high byte is a byte write of its own. -/
theorem epWriteWord16LE_free (w : Word) (ht : (s.ep e).txrdy = true) (hl : (s.ep e).inBuf.length ≠ 64) :
    epWriteWord16LE w s
      = epWriteByte (hi8 w) (s.setEp e { s.ep e with inBuf := (s.ep e).inBuf ++ [lo8 w] }) := by
  rw [epWriteWord16LE, epWriteByte_free h _ ht hl, bind_ok]

theorem epWriteWord16LE_half (w : Word) (ht : (s.ep e).txrdy = true) (hl : (s.ep e).inBuf.length = 63) :
    epWriteWord16LE w s = .raised (faulted .invariantViolation
      (s.setEp e { s.ep e with inBuf := (s.ep e).inBuf ++ [lo8 w] })) := by
  rw [epWriteWord16LE_free h w ht (by omega)]
  exact epWriteByte_blocked (e := e) (by simpa using h) _ (.inr (by simp [hl]))

theorem epWriteWord16LE_ok (w : Word) (ht : (s.ep e).txrdy = true) (h63 : (s.ep e).inBuf.length ≠ 63)
    (h64 : (s.ep e).inBuf.length ≠ 64) :
    epWriteWord16LE w s = .ok () (s.setEp e { s.ep e with inBuf := (s.ep e).inBuf ++ [lo8 w, hi8 w] }) := by
  rw [epWriteWord16LE_free h w ht h64,
    epWriteByte_free (e := e) (by simpa using h) _ (by simpa using ht) (by simpa using h63)]
  simp

end

/-! ## The statements -/

/-- Settles O7: a byte read by what the bank holds, a word read as two of them. -/
theorem bankReadsPopBytes : Obligations.BankReadsPopBytes := by
  intro s e hsel
  refine ⟨fun hempty => ?_, fun b rest hcons => epReadByte_cons hsel hcons, fun lo hi rest hcons => ?_⟩
  · rw [epReadByte_empty hsel hempty, raise_eq_faulted]
  · exact ⟨le16 lo hi, toNat_le16 lo hi, epReadWord16LE_cons hsel hcons⟩

/-- Settles O8: a word write is two byte writes, and the bank's length says which of them finds it full. -/
theorem bankWritesAppendBytes : Obligations.BankWritesAppendBytes := by
  intro s e v w hsel
  rw [← lo8_eq_ofNat, ← hi8_eq_ofNat]
  exact ⟨fun hb => ⟨epWriteByte_blocked hsel v hb, epWriteWord16LE_blocked hsel w hb⟩, epWriteByte_free hsel v,
    epWriteWord16LE_half hsel w, epWriteWord16LE_ok hsel w⟩

/-- Settles O9: each primitive's law on the selected endpoint. -/
theorem flagPrimitivesActOnTheSelection : Obligations.FlagPrimitivesActOnTheSelection := by
  intro s e hsel
  refine ⟨fun _ => rfl, epAvail_eq hsel, ?_, epClearSetup_eq hsel, epRelease_eq hsel, ?_, epStall_eq hsel⟩
  · rw [epFlags_eq hsel, flagsOf_eq]
  · rw [epCommit_eq hsel, commit_eq_committed]

/-- R36, in the statement's words: a draw, and the endpoint armed when it answers ok. -/
theorem epConfigure_eq (e : EpId) (k : EpKind) (n : Nat) (s : State) :
    epConfigure e k n s =
      if (drawConfigOk s).1 then
        .ok true ((drawConfigOk s).2.setEp e (armedEndpoint (decide (k ≠ .bulkOut))))
      else .ok false (drawConfigOk s).2 :=
  rfl

/-- Settles O10: the state after the draw is the t of the statement, whoever answers. -/
theorem configureArmsTheEndpoint : Obligations.ConfigureArmsTheEndpoint := by
  intro s e k n
  refine ⟨(drawConfigOk s).2, ?_, ?_, fun b rest hanswers => ?_⟩
  · obtain ⟨b, rest, -, hdraw⟩ | ⟨-, hdraw⟩ := drawConfigOk_cases s <;> rw [hdraw]
  · rw [epConfigure_eq]
    split
    · exact .inl rfl
    · exact .inr rfl
  · have hdraw : drawConfigOk s = (b, { s with cfgAnswers := rest }) := by rw [drawConfigOk, hanswers]
    rw [epConfigure_eq, hdraw]
    exact ⟨rfl, rfl⟩

end Sys2Proof.Machine
end

section
/-! SUPPORT. The descriptor ROM (20_memory.md R51 to R56): where each descriptor lies in it, and what each says of
itself. -/

namespace Sys2Proof.Machine

open Sys2Proof.Claims Sys2Proof.Safety

/-! ## Where the descriptors lie -/

/-- The bytes lie in the ROM from the given offset on (R51). -/
def LiesAt (p : Params) (off : Nat) (bytes : List Byte) : Prop :=
  ∃ before after, rom p = before ++ bytes ++ after ∧ before.length = off

theorem LiesAt.romByte_eq {p : Params} {off : Nat} {bytes : List Byte} (h : LiesAt p off bytes) {i : Nat}
    (hi : i < bytes.length) : romByte p (off + i) = bytes[i]? := by
  obtain ⟨before, after, hrom, rfl⟩ := h
  rw [romByte, hrom, List.append_assoc, List.getElem?_append_right (Nat.le_add_right _ _),
    Nat.add_sub_cancel_left, List.getElem?_append_left hi]

/-- A read of exactly these bytes returns them (R52). -/
theorem LiesAt.memRead_eq {s : State} {off : Nat} {bytes : List Byte} (h : LiesAt s.params off bytes) :
    memRead off bytes.length s = .ok bytes s := by
  obtain ⟨before, after, hrom, rfl⟩ := h
  rw [memRead, hrom, if_pos (by simp), List.append_assoc, List.drop_left, List.take_left]

theorem liesAt_deviceDescriptor (p : Params) : LiesAt p 0x00 (deviceDescriptor p) :=
  ⟨[], configurationBlock p ++ languageString p ++ stringDescriptor p.strProduct ++ stringDescriptor p.strSerial,
    by simp [rom], rfl⟩

theorem liesAt_configurationBlock (p : Params) : LiesAt p 0x12 (configurationBlock p) :=
  ⟨deviceDescriptor p, languageString p ++ stringDescriptor p.strProduct ++ stringDescriptor p.strSerial,
    by simp [rom], rfl⟩

theorem liesAt_languageString (p : Params) : LiesAt p 0x32 (languageString p) :=
  ⟨deviceDescriptor p ++ configurationBlock p, stringDescriptor p.strProduct ++ stringDescriptor p.strSerial,
    by simp [rom], rfl⟩

theorem liesAt_productString (p : Params) : LiesAt p 0x36 (stringDescriptor p.strProduct) :=
  ⟨deviceDescriptor p ++ configurationBlock p ++ languageString p, stringDescriptor p.strSerial, rfl, rfl⟩

theorem liesAt_serialString (p : Params) :
    LiesAt p (0x36 + stringLength p.strProduct) (stringDescriptor p.strSerial) :=
  ⟨deviceDescriptor p ++ configurationBlock p ++ languageString p ++ stringDescriptor p.strProduct, [],
    (List.append_nil _).symm, by rw [List.length_append, length_stringDescriptor]; rfl⟩

/-- R52, R56: lookup gives the place and the length of the descriptor that the pair names. -/
theorem served_of_lookup {p : Params} {type index : Byte} {off len : Nat}
    (h : lookup p type index = some (off, len)) :
    ∃ bytes, served p type index = some bytes ∧ bytes.length = len ∧ LiesAt p off bytes := by
  unfold lookup at h
  split_ifs at h with device config language product serial <;> cases h
  · obtain ⟨rfl, rfl⟩ := device
    exact ⟨_, rfl, rfl, liesAt_deviceDescriptor p⟩
  · obtain ⟨rfl, rfl⟩ := config
    exact ⟨_, rfl, rfl, liesAt_configurationBlock p⟩
  · obtain ⟨rfl, rfl⟩ := language
    exact ⟨_, rfl, rfl, liesAt_languageString p⟩
  · obtain ⟨rfl, rfl⟩ := product
    exact ⟨_, rfl, length_stringDescriptor _, liesAt_productString p⟩
  · obtain ⟨rfl, rfl⟩ := serial
    exact ⟨_, rfl, length_stringDescriptor _, liesAt_serialString p⟩

/-! ## What a descriptor says of itself -/

/-- A descriptor's type is its byte 1, and its length its byte 0, or, of the configuration block (type 2), its bytes
2 and 3 (R53 to R55). -/
structure SelfDescribing (type : Byte) (bytes : List Byte) : Prop where
  two_le : 2 ≤ bytes.length
  four_le : type = 2 → 4 ≤ bytes.length
  type_byte : bytes[1]? = some type
  own_length : type ≠ 2 → bytes[0]? = some (BitVec.ofNat 8 bytes.length)
  total_length : type = 2 → bytes[2]? = some (BitVec.ofNat 8 bytes.length) ∧ bytes[3]? = some 0

theorem selfDescribing_deviceDescriptor (p : Params) : SelfDescribing 1 (deviceDescriptor p) where
  two_le := Nat.le_add_left 2 16
  four_le := nofun
  type_byte := rfl
  own_length _ := rfl
  total_length := nofun

theorem selfDescribing_configurationBlock (p : Params) : SelfDescribing 2 (configurationBlock p) where
  two_le := Nat.le_add_left 2 30
  four_le _ := Nat.le_add_left 4 28
  type_byte := rfl
  own_length h := absurd rfl h
  total_length _ := ⟨rfl, rfl⟩

theorem selfDescribing_languageString (p : Params) : SelfDescribing 3 (languageString p) where
  two_le := Nat.le_add_left 2 2
  four_le := nofun
  type_byte := rfl
  own_length _ := rfl
  total_length := nofun

theorem selfDescribing_stringDescriptor (u : List Word) : SelfDescribing 3 (stringDescriptor u) where
  two_le := by rw [length_stringDescriptor, stringLength]; exact Nat.le_add_right _ _
  four_le := nofun
  type_byte := rfl
  own_length _ := by rw [length_stringDescriptor]; rfl
  total_length := nofun

theorem selfDescribing_of_served {p : Params} {type index : Byte} {bytes : List Byte}
    (h : served p type index = some bytes) : SelfDescribing type bytes := by
  unfold served at h
  split_ifs at h with device config language product serial <;> cases h
  · obtain ⟨rfl, -⟩ := device
    exact selfDescribing_deviceDescriptor p
  · obtain ⟨rfl, -⟩ := config
    exact selfDescribing_configurationBlock p
  · obtain ⟨rfl, -⟩ := language
    exact selfDescribing_languageString p
  · obtain ⟨rfl, -⟩ := product
    exact selfDescribing_stringDescriptor p.strProduct
  · obtain ⟨rfl, -⟩ := serial
    exact selfDescribing_stringDescriptor p.strSerial

/-! ## The statements -/

/-- Settles O11: the descriptor lies where lookup says, so the ROM's bytes there are the descriptor's own. -/
theorem descriptorsDescribeThemselves : Obligations.DescriptorsDescribeThemselves := by
  intro s type index off len hwf hlookup
  obtain ⟨inside, short⟩ := lookup_in_rom hwf hlookup
  obtain ⟨bytes, hserved, rfl, place⟩ := served_of_lookup hlookup
  have self := selfDescribing_of_served hserved
  have two := self.two_le
  refine ⟨inside, two, short, ⟨bytes, hserved, place.memRead_eq, rfl⟩, ?_, fun hne => ?_, fun heq => ?_⟩
  · rw [place.romByte_eq two, self.type_byte]
  · exact (place.romByte_eq (i := 0) (by omega)).trans (self.own_length hne)
  · have four := self.four_le heq
    rw [place.romByte_eq (by omega), place.romByte_eq (by omega)]
    exact self.total_length heq

/-- Settles O12, a closed fact: the ROM of P0 is evaluated. -/
theorem romUnderP0 : Obligations.RomUnderP0 := by
  unfold Obligations.RomUnderP0
  decide

end Sys2Proof.Machine
end

section
/-! SUPPORT. The parameter record stays for the life of the device (00_scope.md R9), and with it the descriptor ROM,
which is a function of it (20_memory.md R59): one lemma per operation, handler and row. -/

namespace Sys2Proof.Machine

/-! ## Sequencing -/

/-- An operation that leaves the parameter record as it was, raised or not. -/
def KeepsParams {α : Type} (f : State → Res α) : Prop := ∀ s, (f s).state.params = s.params

/-- A meaning that leaves the parameter record as it was. -/
def MeaningKeepsParams (f : State → Host.Outcome State Fault Refusal) : Prop :=
  ∀ s t, f s = .next t → t.params = s.params

section
variable {α β : Type}

/-- An answer over an update of other fields. -/
theorem keepsParams_ok {a : State → α} {g : State → State}
    (hg : ∀ s, (g s).params = s.params := by exact fun _ => rfl) : KeepsParams fun s => .ok (a s) (g s) :=
  hg

theorem keepsParams_raise (c : FaultCode) : KeepsParams (raise c : State → Res α) := raiseFault_params c

theorem KeepsParams.bind {f : State → Res α} {k : α → State → Res β} (hf : KeepsParams f)
    (hk : ∀ a, KeepsParams (k a)) : KeepsParams fun s => (f s).bind k := by
  intro s
  have first := hf s
  dsimp only
  cases hr : f s with
  | ok a t => rw [hr] at first; exact (hk a t).trans first
  | raised t => rw [hr] at first; exact first

theorem KeepsParams.comp {f : State → Res α} {g : State → State} (hf : KeepsParams f)
    (hg : ∀ s, (g s).params = s.params) : KeepsParams fun s => f (g s) :=
  fun s => (hf (g s)).trans (hg s)

theorem KeepsParams.ite {c : State → Prop} [DecidablePred c] {f g : State → Res α} (hf : KeepsParams f)
    (hg : KeepsParams g) : KeepsParams fun s => if c s then f s else g s := by
  intro s
  dsimp only
  split
  · exact hf s
  · exact hg s

end

/-- A whole step leaves the state that its operation leaves. -/
theorem KeepsParams.answer {f : State → Res Unit} (hf : KeepsParams f) : MeaningKeepsParams fun s => answer (f s) := by
  rintro s _ ⟨⟩
  exact hf s

theorem meaningKeepsParams_next {g : State → State} (hg : ∀ s, (g s).params = s.params) :
    MeaningKeepsParams fun s => .next (g s) := by
  rintro s _ ⟨⟩
  exact hg s

/-! ## The window (R35 to R47) -/

theorem keepsParams_selected : KeepsParams selected := by
  intro s
  unfold selected
  split <;> rfl

theorem keepsParams_epAvail : KeepsParams epAvail := keepsParams_selected.bind fun _ => keepsParams_ok

theorem keepsParams_epFlags : KeepsParams epFlags := keepsParams_selected.bind fun _ => keepsParams_ok

/-- The flag operations update the selected endpoint. -/
theorem keepsParams_updateSelected (g : Endpoint → Endpoint) :
    KeepsParams fun s => (selected s).bind fun e s => .ok () (s.setEp e (g (s.ep e))) :=
  keepsParams_selected.bind fun e => keepsParams_ok fun s => setEp_params s e _

theorem keepsParams_epClearSetup : KeepsParams epClearSetup :=
  keepsParams_updateSelected fun x => { x with rxstp := false, outBuf := [] }
theorem keepsParams_epRelease : KeepsParams epRelease :=
  keepsParams_updateSelected fun x => { x with rxout := false, outBuf := [] }
theorem keepsParams_epCommit : KeepsParams epCommit := keepsParams_updateSelected Endpoint.commit

theorem keepsParams_epReadByte : KeepsParams epReadByte := by
  refine keepsParams_selected.bind fun e s => ?_
  dsimp only
  split
  · rfl
  · exact setEp_params s e _

theorem keepsParams_epReadWord16LE : KeepsParams epReadWord16LE :=
  keepsParams_epReadByte.bind fun _ => keepsParams_epReadByte.bind fun _ => keepsParams_ok

theorem keepsParams_epWriteByte (b : Byte) : KeepsParams (epWriteByte b) :=
  keepsParams_selected.bind fun e =>
    .ite (keepsParams_raise _) (.ite (keepsParams_raise _) (keepsParams_ok fun s => setEp_params s e _))

theorem keepsParams_writeBytes (bs : List Byte) : KeepsParams (writeBytes bs) := by
  induction bs with
  | nil => exact keepsParams_ok
  | cons b bs ih => exact (keepsParams_epWriteByte b).bind fun _ => ih

theorem keepsParams_writeSlice (src : List Byte) (n : Nat) : ∀ start, KeepsParams (writeSlice src start n) := by
  induction n with
  | zero => exact fun _ => keepsParams_ok
  | succ n ih =>
    intro start s
    unfold writeSlice
    split
    · rfl
    next b _ => exact (keepsParams_epWriteByte b).bind (fun _ => ih (start + 1)) s

theorem keepsParams_epConfigureOrRaise (e : EpId) (k : EpKind) (n : Nat) :
    KeepsParams (epConfigureOrRaise e k n) := by
  intro s
  obtain ⟨as, m, h | h⟩ := epConfigureOrRaise_cases e k n s <;> rw [h]
  · exact setEp_params _ e _
  · rfl

theorem keepsParams_memRead (addr n : Nat) : KeepsParams (memRead addr n) :=
  .ite keepsParams_ok (keepsParams_raise _)

/-! ## Requests (40_control_sequencer.md R75 to R84) -/

theorem keepsParams_stallPath : KeepsParams stallPath := fun s => by rw [stallPath_eq]; rfl

theorem keepsParams_controlWritePath : KeepsParams controlWritePath := fun s => by rw [controlWritePath_eq]; rfl

theorem keepsParams_controlPath (q : SetupRequest) (r : Reply) : KeepsParams (controlPath q r) := by
  intro s
  unfold controlPath
  split
  · rfl
  · exact keepsParams_stallPath s
  · exact keepsParams_stallPath s
  · exact keepsParams_controlWritePath s
  · rw [addressPath_eq]; rfl
  · exact keepsParams_stallPath s

theorem keepsParams_handleGetDescriptor (f : Fields) : KeepsParams (handleGetDescriptor f) := by
  intro s
  unfold handleGetDescriptor
  split
  · rfl
  · split
    · rfl
    next off len _ => exact (keepsParams_memRead off len).bind (fun _ => keepsParams_ok) s

theorem keepsParams_handleSetConfiguration (f : Fields) : KeepsParams (handleSetConfiguration f) :=
  ((keepsParams_epConfigureOrRaise .bulkIn .bulkIn Config.bulkSize).comp
      (g := fun s => { s with cfg := { s.cfg with cfgValue := configValue f } }) fun _ => rfl).bind fun _ =>
    (keepsParams_epConfigureOrRaise .bulkOut .bulkOut Config.bulkSize).bind fun _ => keepsParams_ok

/-- Every other handler writes the pending address or a diagnostic event at most. -/
theorem keepsParams_handlerOf (q : SetupRequest) (i : Instr) : KeepsParams (handlerOf q i) := by
  cases i with
  | getDescriptor f => exact keepsParams_handleGetDescriptor f
  | setConfiguration f => exact keepsParams_handleSetConfiguration f
  | getStatus f => obtain ⟨d, -, -, -, -, -⟩ := f; cases d <;> exact keepsParams_ok
  | setAddress f => obtain ⟨d, -, -, -, -, -⟩ := f; cases d <;> exact keepsParams_ok
  | _ => exact keepsParams_ok

theorem KeepsParams.serve {handler : State → Res Reply} (h : KeepsParams handler) (q : SetupRequest) :
    KeepsParams (serve q handler) :=
  (keepsParams_epClearSetup.comp (g := fun s => { epSelect .ctl s with setup := some q }) fun _ => rfl).bind fun _ =>
    h.bind fun r => keepsParams_controlPath q r

theorem keepsParams_dispatch (q : SetupRequest) : KeepsParams (dispatch q) := fun s => by
  rw [dispatch_eq_handlerOf]
  exact keepsParams_handlerOf q _ s

theorem keepsParams_readRequest : KeepsParams readRequest :=
  keepsParams_epReadByte.bind fun _ => keepsParams_epReadByte.bind fun _ => keepsParams_epReadWord16LE.bind fun _ =>
    keepsParams_epReadWord16LE.bind fun _ => keepsParams_epReadWord16LE.bind fun _ => keepsParams_ok

theorem keepsParams_captureStep : KeepsParams captureStep :=
  (keepsParams_epAvail.comp (epSelect_params .ctl)).bind fun _ =>
    .ite (keepsParams_raise _) (keepsParams_readRequest.bind fun q => (keepsParams_dispatch q).serve q)

/-- A request row is the capture step with its handler. -/
theorem meaningKeepsParams_of_request {i : Instr} (h : ∀ p, ∃ q, i.request p = some q) :
    MeaningKeepsParams (exec i) := by
  intro s t ht
  obtain ⟨q, hq⟩ := h s.params
  rw [exec_of_request hq] at ht
  exact ((keepsParams_handlerOf q i).serve q).answer s t ht

/-! ## The sequencer's rows -/

theorem keepsParams_goto (ph : Phase) : KeepsParams fun s => .ok () (setPhase ph (epSelect .ctl s)) := keepsParams_ok

theorem meaningKeepsParams_execCtlPoll : MeaningKeepsParams execCtlPoll := by
  rw [funext execCtlPoll_eq]
  exact (KeepsParams.ite (keepsParams_captureStep.comp (epSelect_params .ctl)) (keepsParams_goto .bulkOut)).answer

theorem keepsParams_sendChunk (src : List Byte) (total sent : Word) : KeepsParams (sendChunk src total sent) :=
  (keepsParams_writeSlice src _ _).bind fun _ => keepsParams_epCommit.bind fun _ => keepsParams_ok

theorem meaningKeepsParams_execInData (src : List Byte) (total sent : Word) :
    MeaningKeepsParams (execInData src total sent) := by
  rw [funext (execInData_eq src total sent)]
  exact (KeepsParams.ite (keepsParams_goto .bulkOut) (.ite (keepsParams_goto .inStatus)
    (.ite ((keepsParams_sendChunk src total sent).comp (epSelect_params .ctl)) keepsParams_ok))).answer

theorem keepsParams_completeStatus : KeepsParams completeStatus :=
  keepsParams_epRelease.bind fun _ => keepsParams_epCommit.bind fun _ => keepsParams_ok

theorem meaningKeepsParams_execInStatus : MeaningKeepsParams execInStatus := by
  rw [funext execInStatus_eq]
  exact (KeepsParams.ite (keepsParams_goto .bulkOut)
    (.ite (keepsParams_completeStatus.comp (epSelect_params .ctl)) keepsParams_ok)).answer

theorem latchAddress_params (s : State) : (latchAddress s).params = s.params := by
  unfold latchAddress
  split <;> rfl

theorem meaningKeepsParams_execAddrWait : MeaningKeepsParams execAddrWait := by
  have latch : KeepsParams fun s => .ok () (setPhase .bulkOut (latchAddress (epSelect .ctl s))) :=
    keepsParams_ok fun s => latchAddress_params (epSelect .ctl s)
  rw [funext execAddrWait_eq]
  exact (KeepsParams.ite (keepsParams_goto .bulkOut) (.ite latch keepsParams_ok)).answer

theorem relayForward_params (b : Byte) (s : State) : (relayForward b s).params = s.params := by
  unfold relayForward
  split <;> rfl

theorem relayByte_params (b : Byte) (s : State) : (relayByte b s).params = s.params := by
  rw [relayByte, relayForward_params, classify_relayLast]

theorem keepsParams_relayBytes (k : Nat) : KeepsParams (relayBytes k) := by
  induction k with
  | zero => exact keepsParams_ok
  | succ k ih => exact keepsParams_epReadByte.bind fun b => ih.comp (relayByte_params b)

theorem meaningKeepsParams_execBulkOut : MeaningKeepsParams execBulkOut := by
  refine ((keepsParams_epFlags.comp (epSelect_params .bulkOut)).bind fun _ => ?_).answer
  refine KeepsParams.bind (.ite ?_ keepsParams_ok) fun _ => keepsParams_ok
  exact keepsParams_epAvail.bind fun k =>
    .ite (keepsParams_raise _) ((keepsParams_relayBytes k.toNat).bind fun _ => keepsParams_epRelease)

theorem keepsParams_writePayload : KeepsParams writePayload := by
  intro s
  unfold writePayload
  split
  · exact keepsParams_writeBytes _ s
  all_goals
    split
    · exact keepsParams_epWriteByte _ s
    · rfl

theorem keepsParams_sendItem : KeepsParams sendItem :=
  (keepsParams_epWriteByte _).bind fun _ => (keepsParams_epWriteByte _).bind fun _ =>
    keepsParams_writePayload.bind fun _ => keepsParams_epCommit.bind fun _ => keepsParams_ok

theorem meaningKeepsParams_execBulkIn : MeaningKeepsParams execBulkIn :=
  ((keepsParams_epFlags.comp (epSelect_params .bulkIn)).bind fun _ =>
    (KeepsParams.ite keepsParams_sendItem keepsParams_ok).bind fun _ => keepsParams_ok).answer

/-! ## The events (60_exceptions.md R128 to R134) -/

theorem hostInAt_params (a : Addr) (e : EpId) (s : State) : (hostInAt a e s).params = s.params := by
  obtain ⟨w, h | ⟨-, h⟩⟩ := hostInAt_cases a e s <;> rw [h]
  · rfl
  · exact setEp_params _ e _

theorem hostOutAt_params (a : Addr) (e : EpId) (p : List Byte) (s : State) :
    (hostOutAt a e p s).params = s.params := by
  obtain ⟨w, h | ⟨-, -, h⟩⟩ := hostOutAt_cases a e p s <;> rw [h]
  · rfl
  · exact setEp_params _ e _

theorem meaningKeepsParams_event (e : Event) : MeaningKeepsParams (exec e.instr) := by
  intro s t ht
  cases e with
  | hostSetup a p => obtain h | ⟨w, h | h⟩ := execHostSetup_cases a p s <;> cases h.symm.trans ht <;> rfl
  | hostIn a e =>
    cases ht
    split
    · rfl
    · exact hostInAt_params a (inPipeEp e) s
  | hostOut a e p =>
    cases ht
    split
    · rfl
    · exact hostOutAt_params a (outPipeEp e) p s
  | busReset => obtain h | ⟨as, m, h | h⟩ := execBusReset_cases s <;> cases h.symm.trans ht <;> rfl
  | vbusOn => obtain ⟨c, d, h⟩ := execVbusOn_frame s; cases h.symm.trans ht; rfl
  | vbusOff => obtain ⟨c, d, h⟩ := execVbusOff_frame s; cases h.symm.trans ht; rfl
  | serialRx b =>
    obtain h | h := execSerialRx_cases b s <;> cases h.symm.trans ht
    · rfl
    · rw [classify_relayLast]

/-! ## The step -/

/-- No instruction writes the parameter record, from any state. -/
theorem meaningKeepsParams_exec (i : Instr) : MeaningKeepsParams (exec i) := by
  cases i with
  | bulkTrigger => exact meaningKeepsParams_next relayTrigger_params
  | bulkEcho b => exact meaningKeepsParams_next relayEcho_params
  | ctlPoll => exact meaningKeepsParams_execCtlPoll
  | setupCapture => exact keepsParams_captureStep.answer
  | inData src total sent => exact meaningKeepsParams_execInData src total sent
  | inStatus => exact meaningKeepsParams_execInStatus
  | controlWrite => exact keepsParams_controlWritePath.answer
  | addrWait => exact meaningKeepsParams_execAddrWait
  | stall => exact keepsParams_stallPath.answer
  | bulkOut => exact meaningKeepsParams_execBulkOut
  | serialForward b => exact meaningKeepsParams_next (relayForward_params b)
  | bulkIn => exact meaningKeepsParams_execBulkIn
  | hostSetup a p => exact meaningKeepsParams_event (.hostSetup a p)
  | hostIn a e => exact meaningKeepsParams_event (.hostIn a e)
  | hostOut a e p => exact meaningKeepsParams_event (.hostOut a e p)
  | busReset => exact meaningKeepsParams_event .busReset
  | vbusOn => exact meaningKeepsParams_event .vbusOn
  | vbusOff => exact meaningKeepsParams_event .vbusOff
  | serialRx b => exact meaningKeepsParams_event (.serialRx b)
  | _ => exact meaningKeepsParams_of_request fun _ => ⟨_, rfl⟩

theorem powerOn_params (s : State) : (powerOn s).params = s.params := by
  have start : KeepsParams fun s => epConfigureOrRaise .ctl .control Config.ep0Size (powerOnValues s) :=
    (keepsParams_epConfigureOrRaise .ctl .control _).comp fun _ => rfl
  exact start.bind (fun _ => keepsParams_ok (g := setPhase .ctlPoll)) s

/-- R9: the parameter record is the device's for life. -/
theorem step_params {s t : State} (h : step s = .next t) : t.params = s.params := by
  have chosen : (afterChoice s).params = s.params := rfl
  obtain ⟨-, ⟨i, -, ht⟩ | ⟨e, -, ht⟩ | ⟨-, rfl⟩⟩ := step_cases h
  · exact (meaningKeepsParams_exec i _ t ht).trans chosen
  · exact (meaningKeepsParams_event e _ t ht).trans chosen
  · exact (powerOn_params _).trans chosen

/-- Settles O13: the ROM is read off the parameter record, and no step writes that. -/
theorem romNeverChanges : Obligations.RomNeverChanges := by
  intro s t hstep addr
  rw [step_params hstep]

end Sys2Proof.Machine
end

section
/-! SUPPORT. The encoding read both ways (30_encoding.md R60 to R65, R69): the fields of bmRequestType and the byte
order of the words, the row a request code selects, and the statements that decode and encode undo each other. -/

namespace Sys2Proof

open Sys2Proof.Machine

/-! ## A word and its bytes (R12, R48) -/

theorem le16_lo8_hi8 (w : Word) : le16 (lo8 w) (hi8 w) = w := BitVec.extractLsb'_append_extractLsb'
theorem lo8_le16 (lo hi : Byte) : lo8 (le16 lo hi) = lo := BitVec.extractLsb'_append_eq_right
theorem hi8_le16 (lo hi : Byte) : hi8 (le16 lo hi) = hi := BitVec.extractLsb'_append_eq_left

/-! ## bmRequestType and its fields (R61) -/

theorem typOf_bmRequestType (f : Fields) : typOf f.bmRequestType = f.typ := by
  have high : f.bmRequestType.getLsbD 6 = f.typ.bits.getLsbD 1 := by
    simp only [Fields.bmRequestType, BitVec.getLsbD_append]; rfl
  have low : f.bmRequestType.getLsbD 5 = f.typ.bits.getLsbD 0 := by
    simp only [Fields.bmRequestType, BitVec.getLsbD_append]; rfl
  rw [typOf, high, low]
  cases f.typ <;> rfl

theorem recipientOf_bmRequestType (f : Fields) : recipientOf f.bmRequestType = f.recipient :=
  BitVec.extractLsb'_append_eq_right

theorem bit_dirOf (bm : Byte) : (dirOf bm).bit = bm.extractLsb' 7 1 := by
  apply BitVec.eq_of_getLsbD_eq
  intro i hi
  obtain rfl : i = 0 := by omega
  rw [dirOf, BitVec.getLsbD_extractLsb']
  cases bm.getLsbD 7 <;> rfl

theorem bits_typOf (bm : Byte) : (typOf bm).bits = bm.extractLsb' 5 2 := by
  apply BitVec.eq_of_getLsbD_eq
  intro i hi
  obtain rfl | rfl : i = 0 ∨ i = 1 := by omega
  all_goals
    rw [typOf, BitVec.getLsbD_extractLsb']
    cases bm.getLsbD 6 <;> cases bm.getLsbD 5 <;> rfl

/-- The three fields make up the byte they are read from. -/
theorem bmRequestType_fields (q : SetupRequest) : q.fields.bmRequestType = q.bmRequestType := by
  simp only [Fields.bmRequestType, SetupRequest.fields, bit_dirOf, bits_typOf, recipientOf]
  rw [BitVec.extractLsb'_append_extractLsb'_eq_extractLsb' (by rfl), BitVec.extractLsb'_append_extractLsb']

/-! ## A request, its fields and its bytes (R60) -/

theorem fields_request (f : Fields) (code : Byte) : (f.request code).fields = f := by
  simp only [SetupRequest.fields, request_dir]
  simp only [Fields.request, typOf_bmRequestType, recipientOf_bmRequestType]

theorem request_fields (q : SetupRequest) : q.fields.request q.bRequest = q := by
  rw [Fields.request, bmRequestType_fields]; rfl

theorem requestOfBytes_bytes (q : SetupRequest) : requestOfBytes q.bytes = .ok q := by
  simp [SetupRequest.bytes, bytes16, requestOfBytes, le16_lo8_hi8]

/-- Eight bytes are the bytes of the request they are read as. -/
theorem requestOfBytes_of_length {bytes : List Byte} (h : bytes.length = 8) :
    ∃ q, requestOfBytes bytes = .ok q ∧ q.bytes = bytes := by
  match bytes, h with
  | [b0, b1, b2, b3, b4, b5, b6, b7], _ =>
    exact ⟨_, rfl, by simp [SetupRequest.bytes, bytes16, lo8_le16, hi8_le16]⟩

theorem requestOfBytes_of_length_ne {bytes : List Byte} (h : bytes.length ≠ 8) :
    requestOfBytes bytes = .error .notEightBytes := by
  unfold requestOfBytes
  split
  · exact absurd rfl h
  · rfl

theorem decodeSetup_of_request {p : Params} {bytes : List Byte} {q : SetupRequest}
    (h : requestOfBytes bytes = .ok q) : decodeSetup p bytes = .ok (decodeRequest p q) := by
  rw [decodeSetup, h]

/-- The decoder reads the code and the fields back out of a request. -/
theorem decodeRequest_request_eq (p : Params) (f : Fields) (code : Byte) :
    decodeRequest p (f.request code) = requestRow p code f := by
  rw [decodeRequest, fields_request]; rfl

/-! ## The row of an instruction's own code (R63 to R65) -/

theorem requestRow_std {p : Params} {f : Fields} (h : stdFieldsOk p f = true) (code : Byte) :
    requestRow p code f = stdRow code f := by
  rw [requestRow, of_decide_eq_true h]

theorem requestRow_shim {p : Params} {f : Fields} (h : p.typeRouting.dispatcher f.typ = .shim) (code : Byte) :
    requestRow p code f = vendorRow p.vendorCodes code f := by
  rw [requestRow, h]

theorem vendorFieldsOk_iff {p : Params} {d : Dir} {f : Fields} :
    vendorFieldsOk p d f = true ↔ p.typeRouting.dispatcher f.typ = .shim ∧ f.dir = d := by
  simp [vendorFieldsOk]

theorem stdRow_other {code : Byte} (h : code ∉ StdCode.all) (f : Fields) : stdRow code f = .stdOther code f := by
  simp only [StdCode.all, List.mem_cons, List.not_mem_nil, or_false, not_or] at h
  simp only [stdRow, h, if_false]

section
variable {c : VendorCodes} {f : Fields}

theorem vendorRow_other {code : Byte} (h : code ∉ c.known f.dir) : vendorRow c code f = .vOther code f := by
  cases hd : f.dir <;> rw [hd] at h <;>
    simp only [VendorCodes.known, List.mem_cons, List.not_mem_nil, or_false, not_or] at h <;>
    simp only [vendorRow, hd, h, if_false]

/-- Codes that differ from each other (R10) each select their own row on direction 0. -/
theorem vendorRow_out (hd : f.dir = .hostToDevice) (hn : (c.known .hostToDevice).Nodup) :
    vendorRow c c.reset f = .vReset f ∧ vendorRow c c.modemCtrl f = .vModemCtrl f ∧
      vendorRow c c.setFlowCtrl f = .vSetFlowCtrl f ∧ vendorRow c c.setBaudRate f = .vSetBaudRate f ∧
      vendorRow c c.setData f = .vSetData f ∧ vendorRow c c.setLatencyTimer f = .vSetLatencyTimer f := by
  simp only [VendorCodes.known, List.nodup_cons, List.mem_cons, List.not_mem_nil, or_false, not_or] at hn
  grind [vendorRow]

/-- The same on direction 1. -/
theorem vendorRow_in (hd : f.dir = .deviceToHost) (hn : (c.known .deviceToHost).Nodup) :
    vendorRow c c.getModemStatus f = .vGetModemStatus f ∧
      vendorRow c c.getLatencyTimer f = .vGetLatencyTimer f ∧ vendorRow c c.readEeprom f = .vReadEeprom f := by
  simp only [VendorCodes.known, List.nodup_cons, List.mem_cons, List.not_mem_nil, or_false, not_or] at hn
  grind [vendorRow]

end

/-- A well-formed request row is the row its request decodes to. -/
theorem decodeRequest_of_wellFormed {p : Params} {i : Instr} {q : SetupRequest} (hp : p.wf = true)
    (hw : wellFormed p i = true) (hq : i.request p = some q) : decodeRequest p q = i := by
  cases i with
  | getStatus f | clearFeature f | setFeature f | setAddress f | getDescriptor f | setDescriptor f
  | getConfiguration f | setConfiguration f | getInterface f | setInterface f | synchFrame f =>
    cases hq
    rw [decodeRequest_request_eq, requestRow_std hw]
    rfl
  | stdOther code f =>
    cases hq
    obtain ⟨hstd, hcode⟩ := Bool.and_eq_true_iff.mp hw
    rw [decodeRequest_request_eq, requestRow_std hstd, stdRow_other (of_decide_eq_true hcode)]
  | vReset f | vModemCtrl f | vSetFlowCtrl f | vSetBaudRate f | vSetData f | vSetLatencyTimer f =>
    cases hq
    obtain ⟨hshim, hd⟩ := vendorFieldsOk_iff.mp hw
    simp only [decodeRequest_request_eq, requestRow_shim hshim, vendorRow_out hd (known_nodup_of_wf hp _)]
  | vGetModemStatus f | vGetLatencyTimer f | vReadEeprom f =>
    cases hq
    obtain ⟨hshim, hd⟩ := vendorFieldsOk_iff.mp hw
    simp only [decodeRequest_request_eq, requestRow_shim hshim, vendorRow_in hd (known_nodup_of_wf hp _)]
  | vOther code f =>
    cases hq
    obtain ⟨hshim, hcode⟩ := Bool.and_eq_true_iff.mp hw
    rw [decodeRequest_request_eq, requestRow_shim (of_decide_eq_true hshim), vendorRow_other (of_decide_eq_true hcode)]
  | classType code f | reservedType code f =>
    cases hq
    obtain ⟨hexact, htyp⟩ : p.typeRouting = .exact ∧ f.typ = _ := by simpa [wellFormed] using hw
    rw [decodeRequest_request_eq, requestRow, hexact, htyp]
    simp [TypeRouting.dispatcher, unroutedRow, htyp]
  | _ => cases hq

/-- A well-formed bulk-byte row is the row its byte decodes to (R69). -/
theorem decodeBulkByte_of_wellFormed {p : Params} {i : Instr} {b : Byte} (hw : wellFormed p i = true)
    (hb : i.bulkByte = some b) : decodeBulkByte b = i := by
  cases i with
  | bulkTrigger => cases hb; rfl
  | bulkEcho b' => cases hb; exact if_neg (by simpa [wellFormed] using hw)
  | _ => cases hb

/-! ## The request of a selected row (R62 to R65) -/

theorem stdRow_selected {p : Params} {f : Fields} (h : stdFieldsOk p f = true) (code : Byte) :
    wellFormed p (stdRow code f) = true ∧ (stdRow code f).request p = some (f.request code) := by
  by_cases hother : code ∈ StdCode.all
  · simp only [StdCode.all, List.mem_cons, List.not_mem_nil, or_false] at hother
    rcases hother with rfl | rfl | rfl | rfl | rfl | rfl | rfl | rfl | rfl | rfl | rfl <;> exact ⟨h, rfl⟩
  · rw [stdRow_other hother]
    exact ⟨by simp [wellFormed, h, hother], rfl⟩

theorem vendorRow_selected {p : Params} {f : Fields} (h : p.typeRouting.dispatcher f.typ = .shim) (code : Byte) :
    wellFormed p (vendorRow p.vendorCodes code f) = true ∧
      (vendorRow p.vendorCodes code f).request p = some (f.request code) := by
  by_cases hknown : code ∈ p.vendorCodes.known f.dir
  · have ok : vendorFieldsOk p f.dir f = true := vendorFieldsOk_iff.mpr ⟨h, rfl⟩
    unfold vendorRow
    cases hd : f.dir <;> rw [hd] at hknown ok
    all_goals
      dsimp only
      repeat (split; next hcode => exact ⟨ok, by rw [hcode]; rfl⟩)
      exact absurd hknown (by simp [VendorCodes.known, *])
  · rw [vendorRow_other hknown]
    exact ⟨by simp [wellFormed, h, hknown], rfl⟩

theorem unroutedRow_selected {p : Params} {f : Fields} (h : p.typeRouting.dispatcher f.typ = .unrouted) (code : Byte) :
    wellFormed p (unroutedRow code f) = true ∧ (unroutedRow code f).request p = some (f.request code) := by
  cases hr : p.typeRouting <;> cases ht : f.typ <;> rw [hr, ht] at h <;> cases h <;>
    simp [unroutedRow, wellFormed, Instr.request, hr, ht]

/-- Whatever a request's code and fields, the row they select is well formed and stands for that request. -/
theorem requestRow_selected (p : Params) (code : Byte) (f : Fields) :
    wellFormed p (requestRow p code f) = true ∧ (requestRow p code f).request p = some (f.request code) := by
  cases hd : p.typeRouting.dispatcher f.typ with
  | std =>
    have ok : stdFieldsOk p f = true := decide_eq_true hd
    rw [requestRow_std ok]
    exact stdRow_selected ok code
  | shim =>
    rw [requestRow_shim hd]
    exact vendorRow_selected hd code
  | unrouted =>
    rw [requestRow, hd]
    exact unroutedRow_selected hd code

theorem decodeRequest_selected (p : Params) (q : SetupRequest) :
    wellFormed p (decodeRequest p q) = true ∧ (decodeRequest p q).request p = some q := by
  have row := requestRow_selected p q.bRequest q.fields
  rwa [request_fields] at row

/-! ## The statements -/

/-- An instruction with an encoding is a request or a bulk byte, and its bytes are that one's. -/
theorem encode_cases {p : Params} {i : Instr} {bytes : List Byte} (h : encode p i = some bytes) :
    (∃ q, i.request p = some q ∧ bytes = q.bytes) ∨ ∃ b, i.bulkByte = some b ∧ bytes = [b] := by
  unfold encode at h
  split at h
  next q hq => cases h; exact .inl ⟨q, hq, rfl⟩
  next b _ hb => cases h; exact .inr ⟨b, hb, rfl⟩
  next => cases h

theorem encode_of_request {p : Params} {i : Instr} {q : SetupRequest} (h : i.request p = some q) :
    encode p i = some q.bytes := by
  rw [encode, h]

/-- Settles O1: the bytes give back the request or the byte, and the code in it selects the row it came from. -/
theorem encodedInstructionDecodesToItself : Obligations.EncodedInstructionDecodesToItself := by
  intro p i bytes hp hw henc
  obtain ⟨q, hq, rfl⟩ | ⟨b, hb, rfl⟩ := encode_cases henc
  · have row := decodeSetup_of_request (p := p) (requestOfBytes_bytes q)
    rwa [decodeRequest_of_wellFormed hp hw hq] at row
  · exact congrArg Except.ok (decodeBulkByte_of_wellFormed hw hb)

/-- Settles O2: any eight bytes are the bytes of one request, and that request selects a row of its own. -/
theorem everyEightBytesAreOneRequest : Obligations.EveryEightBytesAreOneRequest := by
  intro p bytes _
  refine ⟨fun hlen => ?_, fun hlen => ?_⟩
  · obtain ⟨q, hq, rfl⟩ := requestOfBytes_of_length hlen
    obtain ⟨hw, hrequest⟩ := decodeRequest_selected p q
    exact ⟨_, decodeSetup_of_request hq, hw, encode_of_request hrequest⟩
  · rw [decodeSetup, requestOfBytes_of_length_ne hlen]

/-- Settles O4, word by word. -/
theorem writtenWordsDecode : Obligations.WrittenWordsDecode :=
  ⟨rfl, rfl, rfl, rfl, rfl, rfl, rfl, rfl⟩

end Sys2Proof
end

section
/-! SUPPORT. The match and mask table held against the decoder (30_encoding.md R62 to R65): what the mask of each kind
of row keeps of the key, and the first row that then matches. -/

namespace Sys2Proof

/-! ## Masks over the key -/

/-- A mask and a match over the key are one over bmRequestType and one over bRequest. -/
theorem key_and_eq_iff (q : SetupRequest) (m m' v v' : Byte) :
    q.key &&& (m ++ m') = v ++ v' ↔ q.bmRequestType &&& m = v ∧ q.bRequest &&& m' = v' := by
  rw [SetupRequest.key, BitVec.and_append]
  constructor
  · intro h
    have high := congrArg (BitVec.extractLsb' 8 8) h
    have low := congrArg (BitVec.extractLsb' 0 8) h
    rw [BitVec.extractLsb'_append_eq_left, BitVec.extractLsb'_append_eq_left] at high
    rw [BitVec.extractLsb'_append_eq_right, BitVec.extractLsb'_append_eq_right] at low
    exact ⟨high, low⟩
  · rintro ⟨rfl, rfl⟩
    rfl

/-- The bits of bmRequestType that the table's type masks keep: bit 5 is dropped under `Bit6` (R63). -/
def TypeRouting.typeMask : TypeRouting → Byte
  | .exact => 0x60
  | .bit6 => 0x40

/-- The vendor rows' match on bmRequestType (R65). -/
def Dir.vendorMatch : Dir → Byte
  | .hostToDevice => 0x40
  | .deviceToHost => 0xC0

/-! The masks keep what the routing reads, and nothing else (R63). -/

theorem and_typeMask_std (r : TypeRouting) (bm : Byte) :
    bm &&& r.typeMask = 0x00 ↔ r.dispatcher (typOf bm) = .std := by
  cases r <;> revert bm <;> decide

theorem and_typeMask_shim (r : TypeRouting) (bm : Byte) :
    bm &&& r.typeMask = 0x40 ↔ r.dispatcher (typOf bm) = .shim := by
  cases r <;> revert bm <;> decide

theorem and_vendorMask (r : TypeRouting) (d : Dir) (bm : Byte) :
    bm &&& (0x80 ||| r.typeMask) = d.vendorMatch ↔ r.dispatcher (typOf bm) = .shim ∧ dirOf bm = d := by
  cases r <;> cases d <;> revert bm <;> decide

theorem and_typeMask_cls (bm : Byte) : bm &&& 0x60 = 0x20 ↔ typOf bm = .cls := by
  revert bm; decide

theorem and_typeMask_reserved (bm : Byte) : bm &&& 0x60 = 0x60 ↔ typOf bm = .reserved := by
  revert bm; decide

/-! ## The table in groups -/

/-- The rows of one dispatcher that carry a code: their names and codes, under one mask and match of bmRequestType. -/
def codeRows (mask pattern : Byte) (names : List (String × Byte)) : List TableRow :=
  names.map fun n => ⟨n.1, pattern ++ n.2, mask ++ (0xFF : Byte), 0⟩

/-- The row for every other code of a type. -/
def otherRow (name : String) (mask pattern : Byte) : TableRow :=
  ⟨name, pattern ++ (0x00 : Byte), mask ++ (0x00 : Byte), 1⟩

def stdNames : List (String × Byte) :=
  [("GET_STATUS", StdCode.getStatus), ("CLEAR_FEATURE", StdCode.clearFeature), ("SET_FEATURE", StdCode.setFeature),
   ("SET_ADDRESS", StdCode.setAddress), ("GET_DESCRIPTOR", StdCode.getDescriptor),
   ("SET_DESCRIPTOR", StdCode.setDescriptor), ("GET_CONFIGURATION", StdCode.getConfiguration),
   ("SET_CONFIGURATION", StdCode.setConfiguration), ("GET_INTERFACE", StdCode.getInterface),
   ("SET_INTERFACE", StdCode.setInterface), ("SYNCH_FRAME", StdCode.synchFrame)]

def vendorNames (c : VendorCodes) : Dir → List (String × Byte)
  | .hostToDevice =>
    [("V_RESET", c.reset), ("V_MODEM_CTRL", c.modemCtrl), ("V_SET_FLOW_CTRL", c.setFlowCtrl),
     ("V_SET_BAUD_RATE", c.setBaudRate), ("V_SET_DATA", c.setData), ("V_SET_LATENCY_TIMER", c.setLatencyTimer)]
  | .deviceToHost =>
    [("V_GET_MODEM_STATUS", c.getModemStatus), ("V_GET_LATENCY_TIMER", c.getLatencyTimer),
     ("V_READ_EEPROM", c.readEeprom)]

/-- The rows of the unrouted types, which only `Exact` has (R85). -/
def unroutedRows : TypeRouting → List TableRow
  | .exact => [otherRow "CLASS_TYPE" 0x60 0x20, otherRow "RESERVED_TYPE" 0x60 0x60]
  | .bit6 => []

theorem tableRows_eq (p : Params) :
    let m := p.typeRouting.typeMask
    let vendorRows (d : Dir) := codeRows (0x80 ||| m) d.vendorMatch (vendorNames p.vendorCodes d)
    tableRows p = codeRows m 0x00 stdNames ++ ([otherRow "STD_OTHER" m 0x00] ++ (vendorRows .hostToDevice ++
      (vendorRows .deviceToHost ++ ([otherRow "V_OTHER" m 0x40] ++ unroutedRows p.typeRouting)))) := by
  cases h : p.typeRouting <;> simp only [tableRows, h] <;> rfl

/-! ## The first row that matches -/

/-- The name of the first of some rows that has the priority and matches the key. -/
def firstHit (priority : Nat) (rows : List TableRow) (k : Word) : Option String :=
  (rows.find? fun r => r.hits k && r.priority = priority).map (·.mnemonic)

theorem tableLookup_eq (p : Params) (k : Word) :
    tableLookup p k = (firstHit 0 (tableRows p) k).or (firstHit 1 (tableRows p) k) := by
  rw [tableLookup, List.head?_append, List.head?_filter, List.head?_filter, Option.map_or]
  rfl

theorem firstHit_append (n : Nat) (rows rows' : List TableRow) (k : Word) :
    firstHit n (rows ++ rows') k = (firstHit n rows k).or (firstHit n rows' k) := by
  rw [firstHit, List.find?_append, Option.map_or]
  rfl

/-- The first name with the code. -/
def nameOf (names : List (String × Byte)) (code : Byte) : Option String :=
  (names.find? fun n => code = n.2).map (·.1)

@[simp] theorem nameOf_nil (code : Byte) : nameOf [] code = none := rfl

@[simp] theorem nameOf_cons (name : String) (c : Byte) (names : List (String × Byte)) (code : Byte) :
    nameOf ((name, c) :: names) code = if code = c then some name else nameOf names code := by
  unfold nameOf
  split <;> simp [*]

section
variable (q : SetupRequest) (mask pattern : Byte)

/-- A group's rows match by bmRequestType together, and each by its code. -/
theorem firstHit_codeRows (names : List (String × Byte)) :
    firstHit 0 (codeRows mask pattern names) q.key
      = if q.bmRequestType &&& mask = pattern then nameOf names q.bRequest else none := by
  have hits (c : Byte) :
      q.key &&& (mask ++ (0xFF : Byte)) = pattern ++ c ↔ q.bmRequestType &&& mask = pattern ∧ q.bRequest = c := by
    rw [key_and_eq_iff, show q.bRequest &&& 0xFF = q.bRequest from BitVec.and_allOnes]
  rw [firstHit, codeRows, List.find?_map, nameOf]
  split
  next h => simp only [Function.comp_def, TableRow.hits, hits, h, true_and, decide_true, Bool.and_true, Option.map_map]
  next h =>
    simp only [Function.comp_def, TableRow.hits, hits, h, false_and, decide_false, Bool.false_and]
    simp

theorem firstHit_codeRows_one (names : List (String × Byte)) :
    firstHit 1 (codeRows mask pattern names) q.key = none := by
  simp [firstHit, codeRows]

theorem firstHit_otherRow (name : String) :
    firstHit 1 [otherRow name mask pattern] q.key = if q.bmRequestType &&& mask = pattern then some name else none := by
  have hits : (otherRow name mask pattern).hits q.key = decide (q.bmRequestType &&& mask = pattern) :=
    decide_eq_decide.mpr ((key_and_eq_iff q _ _ _ _).trans (by simp))
  simp only [firstHit, List.find?_singleton, hits]
  split <;> simp_all [otherRow]

theorem firstHit_otherRow_zero (name : String) : firstHit 0 [otherRow name mask pattern] q.key = none := by
  simp [firstHit, otherRow]

end

/-! ## The names of the rows -/

theorem stdRow_mnemonic (code : Byte) (f : Fields) :
    (stdRow code f).mnemonic = (nameOf stdNames code).getD "STD_OTHER" := by
  simp only [stdRow, apply_ite Instr.mnemonic, stdNames, nameOf_cons, nameOf_nil,
    apply_ite (Option.getD · "STD_OTHER")]
  rfl

theorem vendorRow_mnemonic (c : VendorCodes) (code : Byte) (f : Fields) :
    (vendorRow c code f).mnemonic = (nameOf (vendorNames c f.dir) code).getD "V_OTHER" := by
  unfold vendorRow vendorNames
  cases f.dir <;>
    simp only [apply_ite Instr.mnemonic, nameOf_cons, nameOf_nil, apply_ite (Option.getD · "V_OTHER")] <;> rfl

/-! ## The statement -/

theorem firstHit_unroutedRows_zero (r : TypeRouting) (q : SetupRequest) : firstHit 0 (unroutedRows r) q.key = none := by
  cases r <;> simp [firstHit, unroutedRows, otherRow]

/-- The rows of the unrouted types match the keys that no dispatcher gets, and those only (R63, R85). -/
theorem firstHit_unroutedRows (r : TypeRouting) (q : SetupRequest) :
    firstHit 1 (unroutedRows r) q.key
      = if r.dispatcher q.fields.typ = .unrouted then some (unroutedRow q.bRequest q.fields).mnemonic else none := by
  have typ : typOf q.bmRequestType = q.fields.typ := rfl
  cases r with
  | bit6 => cases h : q.fields.typ <;> rfl
  | exact =>
    rw [unroutedRows, ← List.singleton_append, firstHit_append, firstHit_otherRow, firstHit_otherRow]
    simp only [and_typeMask_cls, and_typeMask_reserved, typ, unroutedRow]
    cases h : q.fields.typ <;> rfl

/-- What the masks leave of the lookup: the routing of the type and the direction choose the group, the code the row. -/
theorem tableLookup_key (p : Params) (q : SetupRequest) :
    let d := p.typeRouting.dispatcher q.fields.typ
    tableLookup p q.key =
      ((if d = .std then nameOf stdNames q.bRequest else none).or
       ((if d = .shim ∧ q.fields.dir = .hostToDevice then nameOf (vendorNames p.vendorCodes .hostToDevice) q.bRequest
         else none).or
        (if d = .shim ∧ q.fields.dir = .deviceToHost then nameOf (vendorNames p.vendorCodes .deviceToHost) q.bRequest
         else none))).or
      ((if d = .std then some "STD_OTHER" else none).or
       ((if d = .shim then some "V_OTHER" else none).or
        (if d = .unrouted then some (unroutedRow q.bRequest q.fields).mnemonic else none))) := by
  rw [tableLookup_eq, tableRows_eq]
  simp only [firstHit_append, firstHit_codeRows, firstHit_codeRows_one, firstHit_otherRow, firstHit_otherRow_zero,
    firstHit_unroutedRows_zero, firstHit_unroutedRows, and_typeMask_std, and_typeMask_shim, and_vendorMask,
    Option.or_none, Option.none_or]
  rfl

/-- Settles O3: in each dispatcher's group the first row with the code is the decoder's, else the group's other row. -/
theorem tableSelectsTheDecodedRow : Obligations.TableSelectsTheDecodedRow := by
  intro p q
  rw [tableLookup_key, decodeRequest, requestRow]
  cases p.typeRouting.dispatcher q.fields.typ with
  | std => simp [stdRow_mnemonic]
  | shim => cases hd : q.fields.dir <;> simp [vendorRow_mnemonic, hd]
  | unrouted => simp

end Sys2Proof
end

section
/-! SUPPORT. The bulk relay's rows as whole next states (43_bulk_relay.md R114 to R119): the bytes of a packet one after
the other, and the one packet of a pending item. -/

namespace Sys2Proof.Machine

open Sys2Proof.Claims

/-- Under a well-formed record every endpoint can be selected (R10, R37). -/
theorem endpointOf_epSelect_of_wf {s : State} (hwf : s.params.wf = true) (e : EpId) :
    endpointOf (epSelect e s).params (epSelect e s).sel = some e :=
  endpointOf_number hwf e

/-! ## The bytes of a packet (R114) -/

/-- The serial sink after some bytes (R117). -/
def forwarded (s : State) (bs : List Byte) : List Byte :=
  match s.params.serialTxOnOut with
  | .forward => s.serialOut ++ bs
  | .none => s.serialOut

theorem relayForward_eq (b : Byte) (s : State) : relayForward b s = { s with serialOut := forwarded s [b] } := by
  cases h : s.params.serialTxOnOut <;> simp [relayForward, forwarded, emitSerial, h]

/-- The slot after some bytes: the last one's class (R69, R119). -/
def relayAfter (r : Relay) (bs : List Byte) : Relay :=
  match bs.getLast? with
  | none => r
  | some b => { pending := if b = Config.trigger then .banner else .echo, lastIn := some b }

/-- One byte overwrites the slot and goes to the sink. -/
theorem relayByte_eq (b : Byte) (s : State) :
    relayByte b s = { s with relay := relayAfter s.relay [b], serialOut := forwarded s [b] } := by
  rw [relayByte, classify_relayLast, relayForward_eq]
  rfl

/-- Of many bytes the slot keeps the last and the sink all. -/
theorem foldl_relayByte (bs : List Byte) (s : State) :
    bs.foldl (fun t b => relayByte b t) s = { s with relay := relayAfter s.relay bs, serialOut := forwarded s bs } := by
  induction bs using List.reverseRecOn with
  | nil => cases h : s.params.serialTxOnOut <;> simp [relayAfter, forwarded, h]
  | append_singleton bs b ih =>
    rw [List.foldl_concat, ih, relayByte_eq]
    cases h : s.params.serialTxOnOut <;> simp [relayAfter, forwarded, h]

/-! ## The inbound check (R114) -/

/-- R114's handling of a packet: its bytes relayed and the bank given back. -/
def relayPacket (s : State) : Res Unit :=
  (epAvail s).bind fun k s =>
    if Config.bulkSize < k.toNat then raise .invariantViolation s
    else (relayBytes k.toNat s).bind fun _ s => epRelease s

theorem execBulkOut_eq {s : State} (hwf : s.params.wf = true) :
    execBulkOut s = answer ((if s.epOut.rxout then relayPacket (epSelect .bulkOut s)
      else .ok () (epSelect .bulkOut s)).bind fun _ s => .ok () (setPhase .bulkIn s)) := by
  rw [execBulkOut, epFlags_eq (endpointOf_epSelect_of_wf hwf .bulkOut)]
  rfl

section
variable {s : State} (hsel : endpointOf s.params s.sel = some .bulkOut)
include hsel

theorem relayPacket_eq (hl : s.epOut.outBuf.length ≤ 64) :
    relayPacket s = .ok ()
      { s with
        epOut := { s.epOut with rxout := false, outBuf := [] }
        relay := relayAfter s.relay s.epOut.outBuf
        serialOut := forwarded s s.epOut.outBuf } := by
  have count : (BitVec.ofNat 8 s.epOut.outBuf.length).toNat = s.epOut.outBuf.length := by
    rw [BitVec.toNat_ofNat]; omega
  rw [relayPacket, epAvail_eq hsel, bind_ok, ep_bulkOut, count, if_neg (by simpa [Config.bulkSize] using hl),
    relayBytes_ok s.epOut.outBuf hsel rfl, bind_ok, foldl_relayByte, epRelease_eq (e := .bulkOut) (by simpa using hsel)]
  rfl

theorem relayPacket_long (hl : 64 < s.epOut.outBuf.length) (hcount : s.epOut.outBuf.length ≤ 255) :
    relayPacket s = .raised (faulted .invariantViolation s) := by
  have count : (BitVec.ofNat 8 s.epOut.outBuf.length).toNat = s.epOut.outBuf.length := by
    rw [BitVec.toNat_ofNat]; omega
  rw [relayPacket, epAvail_eq hsel, bind_ok, ep_bulkOut, count, if_pos (by simpa [Config.bulkSize] using hl),
    raise_eq_faulted]

end

/-- Settles O41: without a packet nothing is read; a packet's count is its length, and decides whether it is relayed. -/
theorem bulkOutRelaysTheLastByte : Obligations.BulkOutRelaysTheLastByte := by
  intro s hwf
  have hsel := endpointOf_epSelect_of_wf hwf .bulkOut
  change (_ → execBulkOut s = _) ∧ (_ → _ → execBulkOut s = _) ∧ (_ → _ → _ → execBulkOut s = _)
  rw [execBulkOut_eq hwf]
  refine ⟨fun hnone => ?_, fun hpacket hl => ?_, fun hpacket hl hcount => ?_⟩
  · rw [hnone]; rfl
  · rw [if_pos hpacket, relayPacket_eq hsel hl]; rfl
  · rw [if_pos hpacket, relayPacket_long hsel hl hcount]; rfl

/-! ## The outbound check (R118) -/

theorem execBulkIn_eq {s : State} (hwf : s.params.wf = true) :
    execBulkIn s = answer ((if s.relay.pending ≠ .none ∧ s.epIn.txrdy = true then sendItem (epSelect .bulkIn s)
      else .ok () (epSelect .bulkIn s)).bind fun _ s => .ok () (setPhase .ctlPoll s)) := by
  rw [execBulkIn, epFlags_eq (endpointOf_epSelect_of_wf hwf .bulkIn)]
  rfl

/-- Settles O42: an item with its bytes goes out from the clean bank in one packet. -/
theorem bulkInSendsThePendingItem : Obligations.BulkInSendsThePendingItem := by
  intro s hwf
  have hsel := endpointOf_epSelect_of_wf hwf .bulkIn
  change (_ → execBulkIn s = _) ∧ ∀ bs, _ → _ → _ → execBulkIn s = _
  rw [execBulkIn_eq hwf]
  refine ⟨fun hidle => ?_, fun bs hready hclean hitem => ?_⟩
  · have nothing : ¬(s.relay.pending ≠ .none ∧ s.epIn.txrdy = true) := by simpa [or_iff_not_imp_left] using hidle
    rw [if_neg nothing]
    rfl
  · obtain ⟨hpending, hbs, hl⟩ : s.relay.pending ≠ .none ∧ payload s = some bs ∧ bs.length ≤ 62 := by
      obtain ⟨hp, rfl⟩ | ⟨hp, b, hb, rfl⟩ := hitem
      · obtain ⟨-, -, -, hbanner, -, -⟩ := params_facts hwf
        simp [payload, hp, hbanner]
      · simp [payload, hp, hb]
    rw [if_pos ⟨hpending, hready⟩, sendItem_eq hsel hready hclean rfl hbs hl, bind_ok, answer_eq]
    simp [setPhase, epSelect, EpId.number, Config.status0, Config.status1, hclean]

/-- Settles O40: the slot is written whatever it held, the serial sink as the parameter says. -/
theorem byteRowsWriteTheSlot : Obligations.ByteRowsWriteTheSlot := by
  intro b s
  refine ⟨rfl, rfl, ?_⟩
  change Host.Outcome.next (relayForward b s) = _
  cases h : s.params.serialTxOnOut <;> simp [relayForward, emitSerial, h]

end Sys2Proof.Machine
end

section
/-! SUPPORT. The recipient (30_encoding.md R61): it reaches the recorded request alone, and no handler and no path reads
that record back. -/

namespace Sys2Proof.Machine

open Sys2Proof.Claims

/-! ## The record of the request -/

/-- The state with another request recorded (R17). -/
def recording (x : Option SetupRequest) (s : State) : State := { s with setup := x }

theorem mapState_bind {α β : Type} {g : State → State} {k k' : α → State → Res β} (r : Res α)
    (hk : ∀ a s, k' a (g s) = (k a s).mapState g) : (r.mapState g).bind k' = (r.bind k).mapState g := by
  cases r with
  | ok a s => exact hk a s
  | raised s => rfl

theorem epConfigureOrRaise_recording (e : EpId) (k : EpKind) (n : Nat) (x : Option SetupRequest) (s : State) :
    epConfigureOrRaise e k n (recording x s) = (epConfigureOrRaise e k n s).mapState (recording x) := by
  have draw : drawConfigOk (recording x s) = ((drawConfigOk s).1, recording x (drawConfigOk s).2) := by
    cases hs : s.cfgAnswers <;> simp [drawConfigOk, recording, hs]
  rw [epConfigureOrRaise_eq, epConfigureOrRaise_eq, draw]
  split
  · cases e <;> rfl
  · rfl

theorem handleGetDescriptor_recording (f : Fields) (x : Option SetupRequest) (s : State) :
    handleGetDescriptor f (recording x s) = (handleGetDescriptor f s).mapState (recording x) := by
  unfold handleGetDescriptor
  cases f.dir with
  | hostToDevice => rfl
  | deviceToHost =>
    have hp : (recording x s).params = s.params := rfl
    dsimp only
    rw [hp]
    cases lookup s.params (descType f) (descIndex f) with
    | none => rfl
    | some d =>
      obtain ⟨off, len⟩ := d
      by_cases hin : off + len ≤ (rom s.params).length
      · simp [memRead, recording, hin, Res.mapState]
      · simp [memRead, recording, hin, Res.mapState, raise, raiseFault]

theorem handleSetConfiguration_recording (f : Fields) (x : Option SetupRequest) (s : State) :
    handleSetConfiguration f (recording x s) = (handleSetConfiguration f s).mapState (recording x) := by
  have stored := epConfigureOrRaise_recording .bulkIn .bulkIn Config.bulkSize x
    { s with cfg := { s.cfg with cfgValue := configValue f } }
  exact (congrArg (Res.bind · _) stored).trans (mapState_bind _ fun _ t =>
    (congrArg (Res.bind · _) (epConfigureOrRaise_recording .bulkOut .bulkOut Config.bulkSize x t)).trans
      (mapState_bind _ fun _ _ => rfl))

/-- No handler reads the record or writes it. -/
theorem handlerOf_recording (q : SetupRequest) (i : Instr) (x : Option SetupRequest) (s : State) :
    handlerOf q i (recording x s) = (handlerOf q i s).mapState (recording x) := by
  cases i with
  | getDescriptor f => exact handleGetDescriptor_recording f x s
  | setConfiguration f => exact handleSetConfiguration_recording f x s
  | getStatus f => obtain ⟨d, -, -, -, -, -⟩ := f; cases d <;> rfl
  | setAddress f => obtain ⟨d, -, -, -, -, -⟩ := f; cases d <;> rfl
  | _ => rfl

/-- Of the request the path reads the direction and wLength (R78, R79). -/
theorem controlPath_recording {q q' : SetupRequest} (hd : dirOf q'.bmRequestType = dirOf q.bmRequestType)
    (hl : q'.wLength = q.wLength) (r : Reply) (x : Option SetupRequest) (s : State) :
    controlPath q' r (recording x s) = (controlPath q r s).mapState (recording x) := by
  unfold controlPath
  rw [hd, hl]
  cases dirOf q.bmRequestType <;> cases r <;>
    simp only [stallPath_eq, controlWritePath_eq, addressPath_eq] <;> rfl

theorem serve_recording {q q' : SetupRequest} (hd : dirOf q'.bmRequestType = dirOf q.bmRequestType)
    (hl : q'.wLength = q.wLength) (i : Instr) (s : State) :
    serve q' (handlerOf q i) s = (serve q (handlerOf q i) s).mapState (recording (some q')) := by
  rw [serve_eq, serve_eq, show capturedState q' s = recording (some q') (capturedState q s) from rfl,
    handlerOf_recording]
  exact mapState_bind _ fun r t => controlPath_recording hd hl r _ t

/-! ## Another recipient -/

theorem withRecipient_request {i : Instr} {p : Params} {q : SetupRequest} (r : BitVec 5) (h : i.request p = some q) :
    ∃ (f : Fields) (code : Byte), q = f.request code ∧
      (withRecipient r i).request p = some ({ f with recipient := r }.request code) := by
  cases i <;> cases h <;> exact ⟨_, _, rfl, rfl⟩

/-- No handler but V_OTHER's reads the recipient. -/
theorem handlerOf_withRecipient {i : Instr} (h : ∀ code f, i ≠ .vOther code f) (r : BitVec 5)
    (q q' : SetupRequest) : handlerOf q' (withRecipient r i) = handlerOf q i := by
  cases i with
  | vOther code f => exact absurd rfl (h code f)
  | _ => rfl

/-- Settles O60: both rows are the capture step with one handler, for requests that differ in the recipient. -/
theorem recipientIsNeverRead : Obligations.RecipientIsNeverRead := by
  intro i s t r q hq hother ht
  obtain ⟨f, code, rfl, hq'⟩ := withRecipient_request r hq
  rw [exec_of_request hq] at ht
  have served := serve_recording (q := f.request code) (q' := Fields.request { f with recipient := r } code)
    (by simp) rfl i s
  rw [exec_of_request hq', handlerOf_withRecipient hother r (f.request code), served, hq', answer_eq, state_mapState]
  cases ht
  rfl

end Sys2Proof.Machine
end

section
/-! SUPPORT. A program without answers of its own (30_encoding.md R72): while the endpoint hardware takes every
configuration, no turn raises, draws the free value, or leaves the invariant. -/

namespace Sys2Proof.Safety

open Sys2Proof.Machine

/-! ## Turns without trouble -/

/-- From s to t nothing was raised, the free value was not drawn, and the answers taken were the first ones listed. -/
structure Untroubled (s t : State) : Prop where
  fault : t.fault = s.fault
  draws : t.cfgDraws = s.cfgDraws
  answers : t.cfgAnswers <:+ s.cfgAnswers

theorem Untroubled.of_same {s t : State} (hf : t.fault = s.fault := by rfl) (hd : t.cfgDraws = s.cfgDraws := by rfl)
    (ha : t.cfgAnswers = s.cfgAnswers := by rfl) : Untroubled s t :=
  ⟨hf, hd, ha ▸ List.suffix_rfl⟩

theorem Untroubled.trans {s t u : State} (h : Untroubled s t) (h' : Untroubled t u) : Untroubled s u :=
  ⟨h'.fault.trans h.fault, h'.draws.trans h.draws, h'.answers.trans h.answers⟩

/-- The operation answers, and so without trouble. -/
def Calm {α : Type} (r : Res α) (s : State) : Prop := ∃ a t, r = .ok a t ∧ Untroubled s t

theorem Calm.ok {α : Type} {a : α} {s t : State} (h : Untroubled s t) : Calm (.ok a t) s := ⟨a, t, rfl, h⟩

theorem Calm.untroubled {r : Res Unit} {s t : State} (h : Calm r s) (ht : answer r = .next t) : Untroubled s t := by
  obtain ⟨_, u, rfl, hu⟩ := h
  cases ht
  exact hu

/-- A configuration that the next answer grants (R36, R72). -/
theorem epConfigureOrRaise_granted {s : State} {rest : List Bool} (h : s.cfgAnswers = true :: rest) (e : EpId)
    (k : EpKind) (n : Nat) :
    epConfigureOrRaise e k n s = .ok () ({ s with cfgAnswers := rest }.setEp e (.configured k)) := by
  have draw : drawConfigOk s = (true, { s with cfgAnswers := rest }) := by rw [drawConfigOk, h]
  rw [epConfigureOrRaise_eq, draw]
  rfl

/-! ## Requests (40_control_sequencer.md R75 to R78) -/

theorem calm_controlPath (q : SetupRequest) (r : Reply) (s : State) : Calm (controlPath q r s) s := by
  have stalled : Calm (stallPath s) s := by rw [stallPath_eq]; exact .ok .of_same
  unfold controlPath
  split
  · exact .ok .of_same
  · exact stalled
  · exact stalled
  · rw [controlWritePath_eq]; exact .ok .of_same
  · rw [addressPath_eq]; exact .ok .of_same
  · exact stalled

section
variable {s : State}

/-- Every descriptor that lookup finds can be read (R52, R56). -/
theorem calm_handleGetDescriptor (hwf : s.params.wf = true) (f : Fields) : Calm (handleGetDescriptor f s) s := by
  unfold handleGetDescriptor
  split
  · exact .ok .of_same
  · split
    next => exact .ok .of_same
    next off len hl =>
      obtain ⟨hin, -⟩ := lookup_in_rom hwf hl
      rw [memRead, if_pos hin]
      exact .ok .of_same

/-- Two granted answers are what SET_CONFIGURATION takes (R95). -/
theorem calm_handleSetConfiguration (ha : s.cfgAnswers = [true, true]) (f : Fields) :
    Calm (handleSetConfiguration f s) s := by
  rw [handleSetConfiguration, epConfigureOrRaise_granted (rest := [true]) (by exact ha), bind_ok,
    epConfigureOrRaise_granted (rest := []) (by rfl)]
  exact .ok ⟨rfl, rfl, List.nil_suffix⟩

theorem calm_handlerOf (hwf : s.params.wf = true) (ha : s.cfgAnswers = [true, true]) (q : SetupRequest) (i : Instr) :
    Calm (handlerOf q i s) s := by
  cases i with
  | getDescriptor f => exact calm_handleGetDescriptor hwf f
  | setConfiguration f => exact calm_handleSetConfiguration ha f
  | getStatus f => obtain ⟨d, -, -, -, -, -⟩ := f; cases d <;> exact .ok .of_same
  | setAddress f => obtain ⟨d, -, -, -, -, -⟩ := f; cases d <;> exact .ok .of_same
  | _ => exact .ok .of_same

theorem calm_serve (hwf : s.params.wf = true) (ha : s.cfgAnswers = [true, true]) (q : SetupRequest) (i : Instr) :
    Calm (serve q (handlerOf q i) s) s := by
  have captured : Untroubled s (capturedState q s) := .of_same
  rw [serve_eq]
  obtain ⟨r, t, hr, ht⟩ := calm_handlerOf (s := capturedState q s) hwf ha q i
  rw [hr, bind_ok]
  obtain ⟨_, u, hu, htu⟩ := calm_controlPath q r t
  exact ⟨_, u, hu, (captured.trans ht).trans htu⟩

end

/-! ## The sequencer's rows -/

theorem Live.untroubled_execInData {s t : State} {src : List Byte} {total sent : Word} (h : Live s)
    (hp : s.phase = .inData src total sent) (ht : execInData src total sent s = .next t) : Untroubled s t := by
  rw [execInData_eq] at ht
  refine Calm.untroubled ?_ ht
  split
  · exact .ok .of_same
  · split
    · exact .ok .of_same
    · split
      next hready =>
        obtain ⟨h1, h2, -⟩ := h.inv.progress src total sent hp
        rw [sendChunk_eq (h.endpointOf_epSelect .ctl) hready h.inv.ctl.inBank.clean rfl h1 h2]
        exact .ok .of_same
      · exact .ok .of_same

theorem calm_completeStatus (s : State) : Calm (completeStatus (epSelect .ctl s)) s := by
  rw [completeStatus, epRelease_eq (endpointOf_ctl s), bind_ok, epCommit_eq (e := .ctl) (by exact endpointOf_ctl s)]
  exact .ok .of_same

theorem untroubled_execInStatus {s t : State} (ht : execInStatus s = .next t) : Untroubled s t := by
  rw [execInStatus_eq] at ht
  refine Calm.untroubled ?_ ht
  split
  · exact .ok .of_same
  · split
    · exact calm_completeStatus s
    · exact .ok .of_same

theorem untroubled_latchAddress (s : State) : Untroubled s (latchAddress s) := by
  unfold latchAddress
  split <;> exact .of_same

theorem untroubled_execAddrWait {s t : State} (ht : execAddrWait s = .next t) : Untroubled s t := by
  rw [execAddrWait_eq] at ht
  refine Calm.untroubled ?_ ht
  split
  · exact .ok .of_same
  · split
    · have selected : Untroubled s (epSelect .ctl s) := .of_same
      exact .ok ((selected.trans (untroubled_latchAddress _)).trans .of_same)
    · exact .ok .of_same

/-- The inbound check by its law: the bank holds at most one packet. -/
theorem Live.untroubled_execBulkOut {s t : State} (h : Live s) (ht : exec .bulkOut s = .next t) : Untroubled s t := by
  obtain ⟨idle, packet, -⟩ := bulkOutRelaysTheLastByte s h.wf
  cases hx : s.epOut.rxout with
  | false => cases (idle hx).symm.trans ht; exact .of_same
  | true => cases (packet hx h.inv.bulk.bank_size).symm.trans ht; exact .of_same

/-- The outbound check by its law: the bank is clean, and a pending echo has its byte. -/
theorem Live.untroubled_execBulkIn {s t : State} (h : Live s) (ht : exec .bulkIn s = .next t) : Untroubled s t := by
  obtain ⟨idle, send⟩ := bulkInSendsThePendingItem s h.wf
  cases hready : s.epIn.txrdy with
  | false => cases (idle (.inr hready)).symm.trans ht; exact .of_same
  | true =>
    have sent (bs : List Byte) := send bs hready h.inv.bulk.inBank.clean
    cases hp : s.relay.pending with
    | none => cases (idle (.inl hp)).symm.trans ht; exact .of_same
    | banner => cases (sent _ (.inl ⟨hp, rfl⟩)).symm.trans ht; exact .of_same
    | echo =>
      obtain ⟨b, hb⟩ := Option.ne_none_iff_exists'.mp (h.inv.echo_has_byte hp)
      cases (sent _ (.inr ⟨hp, b, hb, rfl⟩)).symm.trans ht
      exact .of_same

/-! ## The turns of a program -/

/-- Without a fault the sequencer has a row to run (R22, R74). -/
theorem Live.exists_fetch {s : State} (h : Live s) : ∃ i, fetch s = some i := by
  by_cases hsetup : s.phase = .ctlPoll ∧ s.ep0.rxstp = true
  · obtain ⟨hp, hs⟩ := hsetup
    obtain ⟨i, -, hi, -⟩ := decodeSetup_of_length s.params (h.inv.ctl.setup_bytes hs)
    exact ⟨i, fetch_of_setup h.running hp hs hi⟩
  · rw [fetch_eq_phaseRow h.running fun hp => by simpa [hp] using hsetup]
    cases hp : s.phase with
    | halted => exact absurd h.running (h.inv.fault_iff_halted.mpr hp)
    | _ => exact ⟨_, rfl⟩

theorem Live.untroubled_sequencer {s t : State} {i : Instr} (h : Live s) (ha : s.cfgAnswers = [true, true])
    (hi : fetch s = some i) (ht : exec i s = .next t) : Untroubled s t := by
  by_cases hsetup : s.phase = .ctlPoll ∧ s.ep0.rxstp = true
  · obtain ⟨hp, hs⟩ := hsetup
    obtain ⟨j, q, hj, hq⟩ := decodeSetup_of_length s.params (h.inv.ctl.setup_bytes hs)
    cases (fetch_of_setup h.running hp hs hj).symm.trans hi
    rw [exec_of_request hq] at ht
    exact (calm_serve h.wf ha q i).untroubled ht
  · have idle : s.phase = .ctlPoll → s.ep0.rxstp = false := fun hp => by simpa [hp] using hsetup
    rw [fetch_eq_phaseRow h.running idle] at hi
    cases hp : s.phase <;> rw [hp] at hi <;> cases hi
    · change execCtlPoll s = _ at ht
      rw [execCtlPoll_eq, idle hp] at ht
      cases ht
      exact .of_same
    · exact h.untroubled_execInData hp ht
    · exact untroubled_execInStatus ht
    · exact untroubled_execAddrWait ht
    · exact h.untroubled_execBulkOut ht
    · exact h.untroubled_execBulkIn ht

theorem untroubled_setEp {s t : State} (h : Untroubled s t) (e : EpId) (x : Endpoint) : Untroubled s (t.setEp e x) :=
  h.trans (.of_same (setEp_fault t e x) (setEp_cfgDraws t e x) (setEp_cfgAnswers t e x))

/-- Of the events only a bus reset draws, and one answer is enough for it (R131). -/
theorem untroubled_event {s t : State} {e : Event} (ha : s.cfgAnswers = [true, true])
    (ht : exec e.instr s = .next t) : Untroubled s t := by
  cases e with
  | hostSetup a p =>
    obtain hc | ⟨w, hc | hc⟩ := execHostSetup_cases a p s <;> cases hc.symm.trans ht <;> exact .of_same
  | hostIn a e =>
    cases ht
    split
    · exact .of_same
    · obtain ⟨w, hc | ⟨-, hc⟩⟩ := hostInAt_cases a (inPipeEp e) s <;> rw [hc]
      · exact .of_same
      · exact untroubled_setEp .of_same _ _
  | hostOut a e p =>
    cases ht
    split
    · exact .of_same
    · obtain ⟨w, hc | ⟨-, -, hc⟩⟩ := hostOutAt_cases a (outPipeEp e) p s <;> rw [hc]
      · exact .of_same
      · exact untroubled_setEp .of_same _ _
  | busReset =>
    refine Calm.untroubled ?_ ht
    split
    · exact .ok .of_same
    · rw [epConfigureOrRaise_granted (s := endOfReset s) (rest := [true]) ha]
      exact .ok ⟨rfl, rfl, by rw [ha]; exact List.suffix_cons _ _⟩
  | vbusOn => obtain ⟨c, d, hc⟩ := execVbusOn_frame s; cases hc.symm.trans ht; exact .of_same
  | vbusOff => obtain ⟨c, d, hc⟩ := execVbusOff_frame s; cases hc.symm.trans ht; exact .of_same
  | serialRx b =>
    obtain hc | hc := execSerialRx_cases b s <;> cases hc.symm.trans ht
    · exact .of_same
    · rw [classify_relayLast]; exact .of_same

/-! ## A step inside a program -/

/-- A machine between two lines of a program that says no answers. -/
structure Ready (s : State) : Prop where
  live : Live s
  unsaid : s.cfgAnswers = []

/-- The state a turn acts on inside a program: the granted answers listed, and the turn used up. -/
def granted (s : State) : State := { grantDraws s with sched := [] }

theorem Ready.live_granted {s : State} (h : Ready s) : Live (granted s) :=
  ⟨h.live.wf, h.live.inv.of_same, h.live.running⟩

theorem Ready.granted_answers {s : State} (h : Ready s) : (granted s).cfgAnswers = [true, true] := by
  rw [granted, grantDraws_cfgAnswers, h.unsaid]
  rfl

theorem step_granted {s : State} (hwf : s.params.wf = true) (t : Turn) :
    step (grantDraws { s with sched := [t] }) = takeTurn t (granted s) :=
  step_of_sched_cons (rest := []) hwf rfl

/-- The outcome is a next state, again between two lines, and the free value was not drawn. -/
def Proceeds (s : State) (o : Host.Outcome State Fault Refusal) : Prop :=
  ∃ u, o = .next u ∧ Ready u ∧ u.cfgDraws = s.cfgDraws

/-- A turn without trouble leaves at most the two granted answers, which are then taken back. -/
theorem Ready.proceeds_of_untroubled {s v : State} {t : Turn} (h : Ready s) (ht : takeTurn t (granted s) = .next v)
    (hv : Untroubled (granted s) v) : Proceeds s (stepAs t s) := by
  have hstep : step (grantDraws { s with sched := [t] }) = .next v := (step_granted h.live.wf t).trans ht
  have inv : Inv v := stepKeepsTheInvariant _ v (Inv.of_same h.live.inv) hstep
  have wf : v.params.wf = true := by rw [step_params hstep]; exact h.live.wf
  have few : v.cfgAnswers.length ≤ drawsPerStep := by
    have hle := hv.answers.length_le
    rwa [h.granted_answers] at hle
  refine ⟨withdrawDraws v, by rw [stepAs, hstep], ⟨⟨wf, inv.of_same, hv.fault.trans h.live.running⟩, ?_⟩, hv.draws⟩
  rw [withdrawDraws_cfgAnswers, Nat.sub_eq_zero_of_le few, List.take_zero]

theorem Ready.proceeds_sequencer {s : State} (h : Ready s) : Proceeds s (stepAs .sequencer s) := by
  obtain ⟨i, hi⟩ := h.live_granted.exists_fetch
  obtain ⟨v, hv⟩ := exec_next i (granted s)
  exact h.proceeds_of_untroubled ((sequencerTurn_of_fetch hi).trans hv)
    (h.live_granted.untroubled_sequencer h.granted_answers hi hv)

theorem Ready.proceeds_event {s : State} (h : Ready s) {e : Event} (he : wellFormed s.params e.instr = true) :
    Proceeds s (stepAs (.event e) s) := by
  obtain ⟨v, hv⟩ := exec_next e.instr (granted s)
  have hturn : takeTurn (.event e) (granted s) = exec e.instr (granted s) := takeTurn_event_of_wellFormed he
  exact h.proceeds_of_untroubled (hturn.trans hv) (untroubled_event h.granted_answers hv)

theorem Ready.refused_event {s : State} (h : Ready s) {e : Event} (he : wellFormed s.params e.instr = false) :
    stepAs (.event e) s = .refused .illFormedEvent := by
  have hturn : takeTurn (.event e) (granted s) = .refused .illFormedEvent := takeTurn_event_of_illFormed he
  rw [stepAs, step_granted h.live.wf, hturn]

theorem Ready.proceeds_sync (n : Nat) : ∀ {s : State} (mark : Option State), Ready s → Proceeds s (sync n mark s) := by
  induction n with
  | zero => exact fun _ h => ⟨_, rfl, h, rfl⟩
  | succ n ih =>
    intro s mark h
    unfold sync
    split
    · exact ⟨s, rfl, h, rfl⟩
    · split
      · exact ⟨s, rfl, h, rfl⟩
      · obtain ⟨u, hu, hready, hdraws⟩ := h.proceeds_sequencer
        rw [hu]
        obtain ⟨v, hv, hready', hdraws'⟩ := ih _ hready
        exact ⟨v, hv, hready', hdraws'.trans hdraws⟩

/-! ## Lines and programs -/

/-- The event of a line (R72); SYNC and a change of the target have none. -/
def lineEvent (a : Addr) : Line → Option Event
  | .setup f code => some (.hostSetup a (setupPacket f code))
  | .inn e => some (.hostIn a e)
  | .out e p => some (.hostOut a e p)
  | .busReset => some .busReset
  | .vbus true => some .vbusOn
  | .vbus false => some .vbusOff
  | .serialRx b => some (.serialRx b)
  | .target _ => none
  | .sync => none

/-- A machine's outcome inside a script under way. -/
def sessionOutcome (h : Session) : Host.Outcome State Fault Refusal → Host.Outcome Session Fault Refusal
  | .next s => .next { h with machine := s }
  | .fault r => .fault r
  | .refused r => .refused r

theorem runLine_sync (fuel : Nat) (h : Session) : runLine fuel .sync h = sessionOutcome h (sync fuel none h.machine) := by
  unfold runLine sessionOutcome
  rfl

section
variable {l : Line} {h : Session} {e : Event} (he : lineEvent h.target l = some e)
include he

theorem runLine_event (fuel : Nat) : runLine fuel l h = sessionOutcome h (stepAs (.event e) h.machine) := by
  unfold lineEvent at he
  split at he <;> cases he <;> unfold runLine sessionOutcome <;> rfl

/-- Only an OUT line longer than a packet is an event outside its rule's domain (R130). -/
theorem long_of_illFormed {p : Params} (hbad : wellFormed p e.instr = false) :
    ∃ o bs, l = .out o bs ∧ 64 < bs.length := by
  cases l with
  | out o bs =>
    cases he
    refine ⟨o, bs, rfl, ?_⟩
    cases o <;> exact Nat.lt_of_not_le (of_decide_eq_false hbad)
  | vbus on => cases on <;> cases he <;> cases hbad
  | target a | sync => cases he
  | _ => cases he; cases hbad

end

/-- A line goes on, or is an OUT line longer than a packet and refused. -/
theorem runLine_cases (fuel : Nat) (l : Line) {h : Session} (hm : Ready h.machine) :
    (∃ h', runLine fuel l h = .next h' ∧ Ready h'.machine ∧ h'.machine.cfgDraws = h.machine.cfgDraws) ∨
    (runLine fuel l h = .refused .illFormedEvent ∧ ∃ e p, l = .out e p ∧ 64 < p.length) := by
  cases he : lineEvent h.target l with
  | some e =>
    cases hok : wellFormed h.machine.params e.instr with
    | true =>
      obtain ⟨u, hu, hready, hdraws⟩ := hm.proceeds_event hok
      exact .inl ⟨_, by rw [runLine_event he, hu]; rfl, hready, hdraws⟩
    | false => exact .inr ⟨by rw [runLine_event he, hm.refused_event hok]; rfl, long_of_illFormed he hok⟩
  | none =>
    unfold lineEvent at he
    split at he <;> cases he
    next a => exact .inl ⟨{ h with target := a }, rfl, hm, rfl⟩
    next =>
      obtain ⟨u, hu, hready, hdraws⟩ := Ready.proceeds_sync fuel none hm
      exact .inl ⟨{ h with machine := u }, by rw [runLine_sync, hu]; rfl, hready, hdraws⟩

theorem runLines_cases (fuel : Nat) (ls : List Line) : ∀ {h : Session}, Ready h.machine →
    (∃ h', runLines fuel ls h = .next h' ∧ Ready h'.machine ∧ h'.machine.cfgDraws = h.machine.cfgDraws) ∨
    (runLines fuel ls h = .refused .illFormedEvent ∧ ∃ e p, Line.out e p ∈ ls ∧ 64 < p.length) := by
  induction ls with
  | nil => exact fun {h} hm => .inl ⟨h, rfl, hm, rfl⟩
  | cons l ls ih =>
    intro h hm
    rw [runLines]
    obtain ⟨h', hrun, hm', hdraws⟩ | ⟨hrun, e, p, rfl, hlong⟩ := runLine_cases fuel l hm <;> rw [hrun]
    · obtain ⟨h'', hrun', hm'', hdraws'⟩ | ⟨hrun', e, p, hmem, hlong⟩ := ih hm'
      · exact .inl ⟨h'', hrun', hm'', hdraws'.trans hdraws⟩
      · exact .inr ⟨hrun', e, p, List.mem_cons_of_mem _ hmem, hlong⟩
    · exact .inr ⟨rfl, e, p, List.mem_cons_self, hlong⟩

/-- Settles O56: line by line, a machine that is live with no answer said stays so. -/
theorem programsNeverFault : Obligations.ProgramsNeverFault := by
  intro fuel ls h hinv hwf hfault hunsaid
  obtain ⟨h', hrun, ⟨live, unsaid⟩, hdraws⟩ | refused := runLines_cases fuel ls ⟨⟨hwf, hinv, hfault⟩, hunsaid⟩
  · exact .inl ⟨h', hrun, live.inv, live.running, unsaid, hdraws⟩
  · exact .inr refused

end Sys2Proof.Safety
end

section
/-! SUPPORT. The control sequencer's rows as whole next states (40_control_sequencer.md R75, R80 to R85). -/

namespace Sys2Proof.Machine

open Sys2Proof.Claims

/-! ## The stall (R84, R85) -/

/-- A handler's refusal stalls in either direction (R78). -/
theorem controlPath_fail (q : SetupRequest) (s : State) : controlPath q .fail s = stallPath s := by
  unfold controlPath
  cases dirOf q.bmRequestType <;> rfl

theorem serve_fail (q : SetupRequest) (s : State) :
    serve q (fun s => .ok .fail s) s = .ok () (stalled (captured q s)) := by
  rw [serve_eq, bind_ok, controlPath_fail, stallPath_eq]
  rfl

/-- Settles O21: the handler of both rows is the refusal, so the capture ends in the stall. -/
theorem unroutedTypesStall : Obligations.UnroutedTypesStall := by
  intro code f s
  have stall := congrArg answer (serve_fail (f.request code) s)
  exact ⟨stall, stall⟩

/-- Settles O33: the two paths' own laws. -/
theorem writeCompletionAndStall : Obligations.WriteCompletionAndStall := by
  intro s
  exact ⟨congrArg answer (controlWritePath_eq s), congrArg answer (stallPath_eq s)⟩

/-! ## The poll and the waits (R75, R80 to R83) -/

/-- Settles O25: without a SETUP the poll takes its other branch. -/
theorem pollWithoutSetupGoesToTheRelay : Obligations.PollWithoutSetupGoesToTheRelay := by
  intro s hs
  change execCtlPoll s = _
  rw [execCtlPoll_eq, if_neg (ne_true_of_eq_false hs)]
  rfl

/-- The bytes of the next chunk (R80). -/
def chunk (src : List Byte) (total sent : Word) : List Byte := (src.drop sent.toNat).take (chunkSize total sent)

/-- The state after the sequencer has committed a chunk (R80). -/
def chunkCommitted (src : List Byte) (total sent : Word) (s : State) : State :=
  { s with
    sel := 0
    ep0 := { s.ep0 with inQ := some (chunk src total sent), txrdy := false }
    phase := afterChunk src total sent (chunkSize total sent) }

/-- From a free, clean bank IN_DATA commits the next chunk. -/
theorem execInData_send {src : List Byte} {total sent : Word} {s : State} (hs : s.ep0.rxstp = false)
    (ho : s.ep0.rxout = false) (ht : s.ep0.txrdy = true) (hb : s.ep0.inBuf = []) (h1 : sent.toNat ≤ total.toNat)
    (h2 : total.toNat ≤ src.length) :
    execInData src total sent s = .next (chunkCommitted src total sent s) := by
  rw [execInData_eq, if_neg (ne_true_of_eq_false hs), if_neg (ne_true_of_eq_false ho), if_pos ht,
    sendChunk_eq (e := .ctl) (endpointOf_ctl s) ht hb rfl h1 h2, answer_eq]
  simp [chunkCommitted, setPhase, epSelect, EpId.number, chunk, hb]

/-- Settles O31: the branches of R80 in their order; the chunk's size and the phase after it are the rule's own. -/
theorem inDataSendsTheNextPacket : Obligations.InDataSendsTheNextPacket := by
  intro src total sent s
  have row : exec (.inData src total sent) s = _ := execInData_eq src total sent s
  refine ⟨fun hs => ?_, fun hs ho => ?_, fun hs ho ht hb h1 h2 => execInData_send hs ho ht hb h1 h2,
    fun hs ho ht => ?_⟩
  · rw [row, if_pos hs]; rfl
  · rw [row, if_neg (ne_true_of_eq_false hs), if_pos ho]; rfl
  · rw [row, if_neg (ne_true_of_eq_false hs), if_neg (ne_true_of_eq_false ho), if_neg (ne_true_of_eq_false ht)]; rfl

/-- R81's completion: the OUT's bytes go, and the IN bank is committed. -/
theorem completeStatus_eq (s : State) :
    completeStatus (epSelect .ctl s) = .ok ()
      { s with sel := 0, ep0 := committed { s.ep0 with rxout := false, outBuf := [] }, phase := .bulkOut } := by
  rw [completeStatus, epRelease_eq (endpointOf_ctl s), bind_ok, epCommit_eq (e := .ctl) (endpointOf_zero _)]
  rfl

/-- Settles O32: the branches of R81 in their order. -/
theorem inStatusResult : Obligations.InStatusResult := by
  intro s
  change execInStatus s = _
  rw [execInStatus_eq, completeStatus_eq]
  split
  · rfl
  · split <;> rfl

/-- Settles O34: the branches of R83 in their order; the latch by the pending address. -/
theorem addrWaitResult : Obligations.AddrWaitResult := by
  intro s
  change execAddrWait s = _
  rw [execAddrWait_eq]
  split
  · rfl
  · split
    · cases hp : s.pendAddr <;> simp [answer_eq, latchAddress, hp, setPhase, epSelect, EpId.number]
    · rfl

end Sys2Proof.Machine
end

section
/-! SUPPORT. The capture through the endpoint window (40_control_sequencer.md R75 to R77) and the capture of the request
rows: one step, whose request is recorded and whose SETUP is acknowledged whatever the handler answers. -/

namespace Sys2Proof.Machine

open Sys2Proof.Claims

/-! ## What the capture step leaves (R76) -/

/-- No handler and no path writes the record of the request, so it stands after the step, raised or not. -/
theorem serve_setup (q : SetupRequest) (i : Instr) (s : State) : (serve q (handlerOf q i) s).state.setup = some q := by
  rw [serve_recording rfl rfl i s, state_mapState]
  rfl

/-- What both halves of a step leave as it was, raised or not, the step leaves as it was. -/
theorem bind_keeps {α β γ : Type} (g : State → γ) {x : γ} {r : Res α} {k : α → State → Res β} (hr : g r.state = x)
    (hk : ∀ a t, g t = x → g (k a t).state = x) : g (r.bind k).state = x := by
  cases r with
  | ok a t => exact hk a t hr
  | raised t => exact hr

theorem epConfigureOrRaise_ep0 {e : EpId} (he : e ≠ .ctl) (k : EpKind) (n : Nat) (s : State) :
    (epConfigureOrRaise e k n s).state.ep0 = s.ep0 := by
  obtain ⟨as, m, h | h⟩ := epConfigureOrRaise_cases e k n s <;> rw [h]
  · exact ep_setEp_other _ e .ctl _ he.symm
  · rfl

theorem handleGetDescriptor_ep0 (f : Fields) (s : State) : (handleGetDescriptor f s).state.ep0 = s.ep0 := by
  unfold handleGetDescriptor memRead
  repeat' split
  all_goals rfl

/-- SET_CONFIGURATION arms the bulk endpoints and no other (R95). -/
theorem handleSetConfiguration_ep0 (f : Fields) (s : State) : (handleSetConfiguration f s).state.ep0 = s.ep0 :=
  bind_keeps State.ep0 (epConfigureOrRaise_ep0 (e := .bulkIn) nofun _ _ _) fun _ _ h1 =>
    bind_keeps State.ep0 ((epConfigureOrRaise_ep0 (e := .bulkOut) nofun _ _ _).trans h1) fun _ _ h2 => h2

/-- Every other handler writes the pending address or a diagnostic event at most. -/
theorem handlerOf_ep0 (q : SetupRequest) (i : Instr) (s : State) : (handlerOf q i s).state.ep0 = s.ep0 := by
  cases i with
  | getDescriptor f => exact handleGetDescriptor_ep0 f s
  | setConfiguration f => exact handleSetConfiguration_ep0 f s
  | getStatus f => obtain ⟨d, -, -, -, -, -⟩ := f; cases d <;> rfl
  | setAddress f => obtain ⟨d, -, -, -, -, -⟩ := f; cases d <;> rfl
  | _ => rfl

theorem commit_rxstp (x : Endpoint) : x.commit.rxstp = x.rxstp := by
  unfold Endpoint.commit
  split <;> rfl

/-- A path commits or stalls, and leaves the SETUP flag alone. -/
theorem controlPath_rxstp (q : SetupRequest) (r : Reply) (s : State) :
    (controlPath q r s).state.ep0.rxstp = s.ep0.rxstp := by
  unfold controlPath
  split
  · rfl
  · rw [stallPath_eq]; rfl
  · rw [stallPath_eq]; rfl
  · rw [controlWritePath_eq]; exact commit_rxstp s.ep0
  · rw [addressPath_eq]; exact commit_rxstp s.ep0
  · rw [stallPath_eq]; rfl

/-- The step acknowledges the SETUP (R44). -/
theorem serve_rxstp (q : SetupRequest) (i : Instr) (s : State) :
    (serve q (handlerOf q i) s).state.ep0.rxstp = false := by
  rw [serve_eq]
  exact bind_keeps (fun t => t.ep0.rxstp) (congrArg Endpoint.rxstp (handlerOf_ep0 q i (capturedState q s)))
    fun r t ht => (controlPath_rxstp q r t).trans ht

/-- The row a request decodes to serves that request (R62 to R65, R77). -/
theorem exec_decodeRequest (q : SetupRequest) (s : State) :
    exec (decodeRequest s.params q) s = answer (serve q (handlerOf q (decodeRequest s.params q)) s) := by
  obtain ⟨-, hq⟩ := decodeRequest_selected s.params q
  exact exec_of_request hq

/-! ## The window's reads (R40, R60, R76) -/

/-- Eight bytes in the bank are read to its end, and are the request they decode to. -/
theorem readRequest_eq {s : State} {e : EpId} {q : SetupRequest} (hsel : endpointOf s.params s.sel = some e)
    (hq : requestOfBytes (s.ep e).outBuf = .ok q) :
    readRequest s = .ok q (s.setEp e { s.ep e with outBuf := [] }) := by
  unfold requestOfBytes at hq
  split at hq <;> cases hq
  next b0 b1 b2 b3 b4 b5 b6 b7 hbank =>
    rw [readRequest, epReadByte_cons hsel hbank, bind_ok,
      epReadByte_cons (e := e) (by simpa using hsel) (by rw [ep_setEp_same]), bind_ok,
      epReadWord16LE_cons (e := e) (by simpa using hsel) (by rw [ep_setEp_same]), bind_ok,
      epReadWord16LE_cons (e := e) (by simpa using hsel) (by rw [ep_setEp_same]), bind_ok,
      epReadWord16LE_cons (e := e) (by simpa using hsel) (by rw [ep_setEp_same]), bind_ok]
    simp

/-- The capture selects endpoint 0 itself. -/
theorem captureStep_epSelect (s : State) : captureStep (epSelect .ctl s) = captureStep s := rfl

/-- R76, R77: the capture serves the request in the bank with the handler of the row it decodes to. -/
theorem captureStep_eq {q : SetupRequest} {s : State} (hq : requestOfBytes s.ep0.outBuf = .ok q) :
    captureStep s = serve q (handlerOf q (decodeRequest s.params q)) s := by
  have hsel := endpointOf_ctl s
  have count : BitVec.ofNat 8 s.ep0.outBuf.length = 8 := by
    by_cases hlen : s.ep0.outBuf.length = 8
    · rw [hlen]; rfl
    · rw [requestOfBytes_of_length_ne hlen] at hq; cases hq
  rw [captureStep, epAvail_eq hsel, bind_ok, ep_epSelect, ep_ctl, count, if_neg (not_not_intro rfl),
    readRequest_eq hsel hq, bind_ok, serve_eq, serve_eq, dispatch_eq_handlerOf]
  rfl

theorem captureStep_of_length_ne {s : State} (h8 : s.ep0.outBuf.length ≠ 8) (h255 : s.ep0.outBuf.length ≤ 255) :
    captureStep s = .raised (faulted .invariantViolation { s with sel := 0 }) := by
  have count : BitVec.ofNat 8 s.ep0.outBuf.length ≠ 8 := by
    intro h
    have h' := congrArg BitVec.toNat h
    rw [BitVec.toNat_ofNat, Nat.mod_eq_of_lt (by omega)] at h'
    exact h8 h'
  rw [captureStep, epAvail_eq (endpointOf_ctl s), bind_ok, ep_epSelect, ep_ctl, if_pos count, raise_eq_faulted]
  rfl

/-! ## The statements -/

/-- Settles O26: the three rows run one capture step, which the eight bytes in the bank determine. -/
theorem captureRunsTheDecodedRow : Obligations.CaptureRunsTheDecodedRow := by
  intro s
  refine ⟨fun q hq => ⟨_, congrArg answer (captureStep_eq hq), exec_decodeRequest q s, serve_setup q _ s, fun hs => ?_⟩,
    fun h8 h255 => congrArg answer (captureStep_of_length_ne h8 h255)⟩
  change execCtlPoll s = _
  rw [execCtlPoll_eq, if_pos hs, captureStep_epSelect, captureStep_eq hq]
  rfl

/-- Bytes that decode are a request's, and the row is the one that it selects. -/
theorem decodeSetup_cases {p : Params} {bytes : List Byte} {i : Instr} (h : decodeSetup p bytes = .ok i) :
    ∃ q, requestOfBytes bytes = .ok q ∧ i = decodeRequest p q := by
  unfold decodeSetup at h
  split at h <;> cases h
  exact ⟨_, ‹_›, rfl⟩

/-- Settles O27: the fetched row is the decoded one, which is well formed because the decoder selects no other. -/
theorem stepRunsTheDecodedRequest : Obligations.StepRunsTheDecodedRequest := by
  intro s s' i hwf hf hp hs hi hc
  obtain ⟨q, -, rfl⟩ := decodeSetup_cases hi
  obtain ⟨wellformed, -⟩ := decodeRequest_selected s.params q
  exact ⟨wellformed, step_of_sequencerChosen hwf hc (fetch_of_setup hf hp hs hi)⟩

end Sys2Proof.Machine
end

section
/-! SUPPORT. Runs of the machine, step by step: the sequencer's row at a phase and the host's step that the schedule
chooses, and the held sequencer (40_control_sequencer.md R86, 70_reset_and_hazards.md R149, R150). -/

namespace Sys2Proof.Machine

open Sys2Proof.Claims

/-! ## Runs -/

section
variable {M : Host.Core} {s t : M.State}

theorem run_succ_of_step (h : M.step s = .next t) (k : Nat) : M.run (k + 1) s = M.run k t := by
  rw [Host.Core.run, h]

theorem run_succ_cases {k : Nat} (h : M.run (k + 1) s = .next t) : ∃ u, M.step s = .next u ∧ M.run k u = .next t := by
  unfold Host.Core.run at h
  split at h
  next u hu => exact ⟨u, hu, h⟩
  all_goals cases h

/-- A run goes on from where its first steps ended. -/
theorem run_add_of_run (m n : Nat) : ∀ {s : M.State}, M.run m s = .next t → M.run (m + n) s = M.run n t := by
  induction m with
  | zero => rintro s ⟨⟩; rw [Nat.zero_add]
  | succ m ih =>
    intro s h
    obtain ⟨u, hu, hrest⟩ := run_succ_cases h
    rw [Nat.add_right_comm, run_succ_of_step hu]
    exact ih hrest

/-- Every run from a state that its own step leaves as it was ends there. -/
theorem run_of_step_self (h : M.step s = .next s) (k : Nat) : M.run k s = .next s := by
  induction k with
  | zero => rfl
  | succ k ih => exact (run_succ_of_step h k).trans ih

end

/-! ## The sequencer's turn outside `CtlPoll` -/

/-- Outside `CtlPoll` the step of the chosen sequencer is the row of its phase. -/
theorem step_of_phaseRow {s s' : State} {i : Instr} (hwf : s.params.wf = true) (hf : s.fault = none)
    (hc : sequencerChosen s s') (hp : s.phase ≠ .ctlPoll) (hi : phaseRow s.phase = some i) : step s = exec i s' :=
  step_of_sequencerChosen hwf hc ((fetch_eq_phaseRow hf fun h => absurd h hp).trans hi)

theorem sequencerChosen_afterChoice {s : State} {rest : List Turn} (h : s.sched = .sequencer :: rest) :
    sequencerChosen s (afterChoice s) :=
  .inr ⟨rest, h, by rw [afterChoice, h, List.tail_cons]⟩

/-- Settles O35: the row of the waiting phase holds, so the state is one that its step leaves as it was. -/
theorem heldSequencerNeverMoves : Obligations.HeldSequencerNeverMoves := by
  intro k s hwf hf hempty hs hwait
  have row {i : Instr} (hp : s.phase ≠ .ctlPoll) (hi : phaseRow s.phase = some i) : step s = exec i s :=
    step_of_phaseRow hwf hf (.inl ⟨hempty, rfl⟩) hp hi
  have hs' := ne_true_of_eq_false hs
  refine run_of_step_self (M := core) ?_ k
  change step s = .next s
  obtain ⟨⟨src, total, sent, hp⟩, ho, ht⟩ | ⟨hp, ho⟩ | ⟨hp, ht⟩ := hwait
  · obtain ⟨-, -, -, hold⟩ := inDataSendsTheNextPacket src total sent s
    exact (row (by simp [hp]) (by rw [hp]; rfl)).trans (hold hs ho ht)
  · rw [row (by simp [hp]) (by rw [hp]; rfl), inStatusResult s, if_neg hs', if_neg (ne_true_of_eq_false ho)]
  · rw [row (by simp [hp]) (by rw [hp]; rfl), addrWaitResult s, if_neg hs', if_neg (ne_true_of_eq_false ht)]

/-! ## The host takes a packet of endpoint 0 (R129) -/

theorem step_of_event {s : State} {e : Event} {rest : List Turn} (hwf : s.params.wf = true)
    (hsched : s.sched = .event e :: rest) (he : wellFormed s.params e.instr = true) :
    step s = exec e.instr (afterChoice s) := by
  obtain ⟨run, -⟩ := stepRunsTheChosenEvent s e rest hwf hsched
  rw [run he, afterChoice, hsched, List.tail_cons]

/-- The state after a host IN has taken the packet q of endpoint 0. -/
def packetTaken (q : List Byte) (s : State) : State :=
  { s with ep0 := { s.ep0 with inQ := none, txrdy := true }, wire := s.wire ++ [.inData 0 q] }

theorem hostInAt_ctl {s : State} {q : List Byte} (harmed : s.ep0.armed = true) (hstall : s.ep0.stall = false)
    (hq : s.ep0.inQ = some q) : hostInAt s.effAddr .ctl s = packetTaken q s := by
  have reached : ¬(s.effAddr ≠ s.effAddr ∨ s.ep0.armed = false) :=
    not_or.mpr ⟨not_not_intro rfl, ne_false_of_eq_true harmed⟩
  rw [hostInAt, ep_ctl, if_neg reached, if_neg (ne_true_of_eq_false hstall), hq]
  rfl

/-- A host IN at the device's address takes the queued packet. -/
theorem step_hostIn_ctl {s : State} {q : List Byte} {rest : List Turn} (hwf : s.params.wf = true)
    (hsched : s.sched = .event (.hostIn s.effAddr .ctl) :: rest) (hv : s.vbus = true)
    (harmed : s.ep0.armed = true) (hstall : s.ep0.stall = false) (hq : s.ep0.inQ = some q) :
    step s = .next (packetTaken q (afterChoice s)) := by
  have enabled : exec (.hostIn s.effAddr .ctl) (afterChoice s) = .next (hostInAt s.effAddr .ctl (afterChoice s)) :=
    congrArg Host.Outcome.next (if_neg (ne_false_of_eq_true hv))
  have taken : hostInAt s.effAddr .ctl (afterChoice s) = packetTaken q (afterChoice s) :=
    hostInAt_ctl (s := afterChoice s) harmed hstall hq
  exact (step_of_event hwf hsched rfl).trans (enabled.trans (congrArg Host.Outcome.next taken))

end Sys2Proof.Machine
end

section
/-! SUPPORT. A new address (40_control_sequencer.md R83, 41_standard_requests.md R93, 70_reset_and_hazards.md R152):
pending through the status stage, and in effect after it. -/

namespace Sys2Proof.Machine

open Sys2Proof.Claims

/-! ## The capture of a SET_ADDRESS (R93) -/

theorem controlPath_okAddr {q : SetupRequest} (hd : dirOf q.bmRequestType = .hostToDevice) (s : State) :
    controlPath q .okAddr s = addressPath s := by
  unfold controlPath
  rw [hd]

/-- The state after the capture of a SET_ADDRESS on direction 0: the address is pending and the zero-length status is
committed. -/
def addressPending (f : Fields) (s : State) : State :=
  { capturedState (f.request StdCode.setAddress) s with
    pendAddr := some (newAddress f)
    ep0 := Endpoint.commit { s.ep0 with rxstp := false, outBuf := [] }
    phase := .addrWait }

theorem exec_setAddress_out {f : Fields} (hd : f.dir = .hostToDevice) (s : State) :
    exec (.setAddress f) s = .next (addressPending f s) := by
  change answer (serve (f.request StdCode.setAddress) (handleSetAddress f) s) = _
  rw [serve_eq, handleSetAddress, hd, bind_ok, controlPath_okAddr ((request_dir f _).trans hd), addressPath_eq]
  rfl

theorem addressPending_ep0 (f : Fields) {s : State} (ht : s.ep0.txrdy = true) (hb : s.ep0.inBuf = []) :
    (addressPending f s).ep0
      = { s.ep0 with rxstp := false, outBuf := [], inQ := some [], inBuf := [], txrdy := false } := by
  have committed := commit_ready (x := { s.ep0 with rxstp := false, outBuf := [] }) ht
  rw [hb] at committed
  exact committed

theorem newAddress_eq_ofNat (f : Fields) : newAddress f = BitVec.ofNat 7 (f.wValue.toNat % 128) := by
  apply BitVec.eq_of_toNat_eq
  simp [newAddress]

/-! ## The latch (R83) -/

theorem execAddrWait_latch {s : State} {a : Addr} (hs : s.ep0.rxstp = false) (ht : s.ep0.txrdy = true)
    (hp : s.pendAddr = some a) : exec .addrWait s = .next
      { s with
        sel := 0
        cfg := { cfgValue := s.cfg.cfgValue, curAddr := a }
        devAddr := a
        addrEn := true
        phase := .bulkOut } := by
  rw [addrWaitResult s, if_neg (ne_true_of_eq_false hs), if_pos ht]
  simp [hp]

/-- Settles O37: the capture and the host's IN leave the two address fields alone, and ADDR_WAIT latches the pending
address once the bank is free again. -/
theorem addressTakesEffectAfterTheStatus : Obligations.AddressTakesEffectAfterTheStatus := by
  intro s f rest hwf hf hp harmed hs hstall ht hb hv hdecode hdir hsched
  have sched1 : s.sched.tail = .event (.hostIn s.effAddr .ctl) :: .sequencer :: rest := congrArg List.tail hsched
  have sched2 : s.sched.tail.tail = .sequencer :: rest := congrArg List.tail sched1
  have capture : step s = .next (addressPending f (afterChoice s)) :=
    (step_of_sequencerChosen hwf (sequencerChosen_afterChoice hsched) (fetch_of_setup hf hp hs hdecode)).trans
      (exec_setAddress_out hdir _)
  have queued := addressPending_ep0 f (s := afterChoice s) ht hb
  have hostIn := step_hostIn_ctl (s := addressPending f (afterChoice s)) (q := []) hwf sched1 hv
    (by rw [queued]; exact harmed) (by rw [queued]; exact hstall) (by rw [queued])
  have latch := (step_of_phaseRow (s := packetTaken [] (afterChoice (addressPending f (afterChoice s)))) hwf hf
    (sequencerChosen_afterChoice sched2) nofun rfl).trans
      (execAddrWait_latch (congrArg Endpoint.rxstp queued) rfl rfl)
  have run1 := run_succ_of_step (M := core) capture
  have run2 := run_succ_of_step (M := core) hostIn
  have run3 := run_succ_of_step (M := core) latch
  have address := newAddress_eq_ofNat f
  exact ⟨_, _, _, run1 0, rfl, rfl, (run1 1).trans (run2 0), rfl, rfl, (run1 2).trans ((run2 1).trans (run3 0)),
    address, address, rfl⟩

end Sys2Proof.Machine
end

section
/-! SUPPORT. The IN data stage with a host that takes every packet (40_control_sequencer.md R79, R80, R88): round by
round the response leaves in full packets and one short one. -/

namespace Sys2Proof.Machine

open Sys2Proof.Claims

/-! ## Bytes in packets -/

/-- The packets carry the bytes in order: every packet but the last is full, and the last is not. -/
structure PacketsOf (bytes : List Byte) (packets : List (List Byte)) : Prop where
  flatten : packets.flatten = bytes
  count : packets.length = bytes.length / 64 + 1
  full : ∀ q ∈ packets.dropLast, q.length = 64
  short : ∀ q, packets.getLast? = some q → q.length < 64

theorem packetsOf_short {bytes : List Byte} (h : bytes.length < 64) : PacketsOf bytes [bytes] where
  flatten := List.flatten_singleton
  count := by rw [Nat.div_eq_of_lt h]; rfl
  full := nofun
  short := by rintro _ ⟨⟩; exact h

theorem PacketsOf.cons {bytes p : List Byte} {packets : List (List Byte)} (h : PacketsOf bytes packets)
    (hp : p.length = 64) : PacketsOf (p ++ bytes) (p :: packets) := by
  obtain ⟨flatten, count, full, short⟩ := h
  obtain ⟨q, qs, rfl⟩ : ∃ q qs, packets = q :: qs := List.exists_cons_of_length_eq_add_one count
  refine ⟨by rw [List.flatten_cons, flatten], ?_, ?_, by rwa [List.getLast?_cons_cons]⟩
  · rw [List.length_cons, count, List.length_append, hp]; omega
  · rw [List.dropLast_cons_cons]
    intro r hr
    obtain rfl | hr := List.mem_cons.mp hr
    · exact hp
    · exact full r hr

/-! ## The rest of a response -/

/-- The bytes still to send (R80). -/
def unsent (src : List Byte) (total sent : Word) : List Byte := (src.take total.toNat).drop sent.toNat

section
variable {src : List Byte} {total sent : Word}

theorem length_unsent (h : total.toNat ≤ src.length) :
    (unsent src total sent).length = total.toNat - sent.toNat := by
  rw [unsent, List.length_drop, List.length_take, Nat.min_eq_left h]

/-- The next chunk is the first 64 bytes of the rest. -/
theorem chunk_eq_take : chunk src total sent = (unsent src total sent).take 64 := by
  rw [chunk, unsent, List.drop_take, List.take_take, Nat.min_comm]
  rfl

/-- A rest shorter than a packet is the last chunk. -/
theorem afterChunk_short (h : total.toNat - sent.toNat < 64) :
    afterChunk src total sent (chunkSize total sent) = .inStatus := by
  have size : chunkSize total sent = total.toNat - sent.toNat := Nat.min_eq_left h.le
  rw [size, afterChunk, if_neg]
  simp only [Config.ep0Size]
  omega

/-- The progress after a full chunk. -/
theorem toNat_add_packet (h : 64 ≤ total.toNat - sent.toNat) :
    (BitVec.ofNat 16 (sent.toNat + 64) : Word).toNat = sent.toNat + 64 := by
  rw [BitVec.toNat_ofNat, Nat.mod_eq_of_lt]
  have := total.isLt
  omega

/-- After a full chunk another packet follows, if only a zero-length one. -/
theorem afterChunk_full (h : 64 ≤ total.toNat - sent.toNat) :
    afterChunk src total sent (chunkSize total sent) = .inData src total (.ofNat 16 (sent.toNat + 64)) := by
  have size : chunkSize total sent = 64 := Nat.min_eq_right h
  rw [size, afterChunk, if_pos (.inr rfl)]

theorem unsent_add_packet (h : 64 ≤ total.toNat - sent.toNat) :
    unsent src total (.ofNat 16 (sent.toNat + 64)) = (unsent src total sent).drop 64 := by
  rw [unsent, toNat_add_packet h, unsent, List.drop_drop]

end

/-! ## One round: a chunk committed and taken -/

/-- A state that streams an IN data stage with endpoint 0's bank free and no other traffic on it. -/
structure Streams (src : List Byte) (total sent : Word) (s : State) : Prop where
  wf : s.params.wf = true
  running : s.fault = none
  phase : s.phase = .inData src total sent
  progress : sent.toNat ≤ total.toNat
  inside : total.toNat ≤ src.length
  armed : s.ep0.armed = true
  noSetup : s.ep0.rxstp = false
  noOut : s.ep0.rxout = false
  noStall : s.ep0.stall = false
  free : s.ep0.txrdy = true
  clean : s.ep0.inBuf = []
  power : s.vbus = true

/-- The state after one turn of the sequencer and one IN of the host. -/
def afterRound (src : List Byte) (total sent : Word) (s : State) : State :=
  packetTaken (chunk src total sent) (afterChoice (chunkCommitted src total sent (afterChoice s)))

section
variable {src : List Byte} {total sent : Word} {s : State} {rest : List Turn} (h : Streams src total sent s)
include h

theorem Streams.run_round (hsched : s.sched = .sequencer :: .event (.hostIn s.effAddr .ctl) :: rest) :
    Host.Core.run core 2 s = .next (afterRound src total sent s) := by
  have row : step s = exec (.inData src total sent) (afterChoice s) :=
    step_of_phaseRow h.wf h.running (sequencerChosen_afterChoice hsched) (by simp [h.phase]) (by rw [h.phase]; rfl)
  have chunkStep : step s = .next (chunkCommitted src total sent (afterChoice s)) :=
    row.trans (execInData_send (s := afterChoice s) h.noSetup h.noOut h.free h.clean h.progress h.inside)
  have hostStep := step_hostIn_ctl (s := chunkCommitted src total sent (afterChoice s)) h.wf
    (congrArg List.tail hsched) h.power h.armed h.noStall rfl
  exact (run_succ_of_step (M := core) chunkStep 1).trans (run_succ_of_step (M := core) hostStep 0)

/-- A full chunk leaves the stage where it was but for the progress. -/
theorem Streams.afterRound (hfull : 64 ≤ total.toNat - sent.toNat) :
    Streams src total (.ofNat 16 (sent.toNat + 64)) (afterRound src total sent s) where
  wf := h.wf
  running := h.running
  phase := afterChunk_full hfull
  progress := by rw [toNat_add_packet hfull]; omega
  inside := h.inside
  armed := h.armed
  noSetup := h.noSetup
  noOut := h.noOut
  noStall := h.noStall
  free := rfl
  clean := h.clean
  power := h.power

end

/-! ## All rounds -/

/-- The last round sends the rest in a packet that is not full, a later one a full packet first. -/
theorem Streams.delivers {src : List Byte} {total : Word} {rest : List Turn} (m : Nat) :
    ∀ {sent : Word} {s : State}, Streams src total sent s → (total.toNat - sent.toNat) / 64 = m →
      s.sched = readRounds s.effAddr (m + 1) ++ rest →
      ∃ (t : State) (packets : List (List Byte)),
        Host.Core.run core (2 * (m + 1)) s = .next t ∧ t.phase = .inStatus ∧ t.sched = rest ∧
        t.wire = s.wire ++ packets.map (WireEntry.inData 0) ∧ PacketsOf (unsent src total sent) packets := by
  induction m with
  | zero =>
    intro sent s h hm hsched
    have hshort : total.toNat - sent.toNat < 64 := by omega
    have length := length_unsent (sent := sent) h.inside
    have whole : chunk src total sent = unsent src total sent := by
      rw [chunk_eq_take, List.take_of_length_le (by omega)]
    refine ⟨_, [unsent src total sent], h.run_round hsched, afterChunk_short hshort,
      congrArg (fun l => l.tail.tail) hsched, ?_, packetsOf_short (by omega)⟩
    rw [← whole]
    rfl
  | succ m ih =>
    intro sent s h hm hsched
    have hfull : 64 ≤ total.toNat - sent.toNat := by omega
    have length := length_unsent (sent := sent) h.inside
    have progress := toNat_add_packet hfull
    obtain ⟨t, packets, hrun, hphase, hrest, hwire, hpackets⟩ :=
      ih (h.afterRound hfull) (by omega) (congrArg (fun l => l.tail.tail) hsched)
    refine ⟨t, chunk src total sent :: packets, ?_, hphase, hrest, ?_, ?_⟩
    · rw [Nat.mul_succ, Nat.add_comm]
      exact (run_add_of_run 2 _ (h.run_round hsched)).trans hrun
    · rw [hwire, List.map_cons, List.append_cons]
      rfl
    · rw [unsent_add_packet hfull] at hpackets
      rw [← List.take_append_drop 64 (unsent src total sent), chunk_eq_take]
      exact hpackets.cons (by rw [List.length_take, length]; omega)

/-- Settles O36: from the start of the stage the rest is the first `total` bytes of the response. -/
theorem controlReadDeliversTheResponse : Obligations.ControlReadDeliversTheResponse := by
  intro s src total rest hwf hf hp hsrc harmed hs ho hstall ht hb hv hsched
  have start : Streams src total 0 s :=
    ⟨hwf, hf, hp, Nat.zero_le _, hsrc, harmed, hs, ho, hstall, ht, hb, hv⟩
  obtain ⟨t, packets, hrun, hphase, hrest, hwire, ⟨flatten, count, full, short⟩⟩ := start.delivers _ rfl hsched
  have length := length_unsent (sent := 0) hsrc
  exact ⟨t, packets, hrun, hphase, hrest, hwire, flatten, by rw [count, length]; rfl, full, short⟩

end Sys2Proof.Machine
end

section
/-! SUPPORT. A SETUP that arrives in a wait (40_control_sequencer.md R87, 60_exceptions.md R128): the wait is aborted,
one pass of the bulk relay leaves endpoint 0 alone, and the poll after it captures the request. -/

namespace Sys2Proof.Safety

open Sys2Proof.Machine Sys2Proof.Claims

/-- A step of the machine without a raise leaves it live. -/
theorem Live.live_step {s t : State} (h : Live s) (hstep : step s = .next t) (hf : t.fault = none) : Live t :=
  ⟨by rw [step_params hstep]; exact h.wf, stepKeepsTheInvariant s t h.inv hstep, hf⟩

/-! ## The abort (R80, R81, R83) -/

/-- The phases in which the sequencer waits for the host (R86). -/
def Waiting (ph : Phase) : Prop := (∃ src total sent, ph = .inData src total sent) ∨ ph = .inStatus ∨ ph = .addrWait

/-- With a SETUP in the bank the row of every waiting phase goes to the relay and does nothing else. -/
theorem exec_wait_of_setup {ph : Phase} {s : State} (hwait : Waiting ph) (hs : s.ep0.rxstp = true) :
    ∃ i, phaseRow ph = some i ∧ exec i s = .next { s with sel := 0, phase := .bulkOut } := by
  obtain ⟨src, total, sent, rfl⟩ | rfl | rfl := hwait
  · obtain ⟨abort, -⟩ := inDataSendsTheNextPacket src total sent s
    exact ⟨_, rfl, abort hs⟩
  · exact ⟨_, rfl, by rw [inStatusResult s, if_pos hs]⟩
  · exact ⟨_, rfl, by rw [addrWaitResult s, if_pos hs]⟩

theorem Waiting.ne_ctlPoll {ph : Phase} (h : Waiting ph) : ph ≠ .ctlPoll := by
  obtain ⟨src, total, sent, rfl⟩ | rfl | rfl := h <;> nofun

/-! ## The arrival (R128) -/

/-- The state after a SETUP has arrived at the device's address. -/
def setupReceived (p : Vector Byte 8) (s : State) : State :=
  emitWire (.setupAck p.toList) { s with ep0 := s.ep0.setupArrived p.toList }

theorem execHostSetup_received {s : State} (p : Vector Byte 8) (hv : s.vbus = true) (harmed : s.ep0.armed = true) :
    execHostSetup s.effAddr p s = .next (setupReceived p s) := by
  have reached : ¬(s.effAddr ≠ s.effAddr ∨ s.ep0.armed = false) :=
    not_or.mpr ⟨not_not_intro rfl, ne_false_of_eq_true harmed⟩
  rw [execHostSetup, if_neg (ne_false_of_eq_true hv), if_neg reached]
  rfl

theorem Live.step_hostSetup {s : State} {p : Vector Byte 8} {rest : List Turn} (h : Live s)
    (hsched : s.sched = .event (.hostSetup s.effAddr p) :: rest) (hv : s.vbus = true) :
    step s = .next (setupReceived p (afterChoice s)) :=
  (step_of_event h.wf hsched rfl).trans (execHostSetup_received (s := afterChoice s) p hv h.inv.ctl.armed)

/-! ## One pass of the relay (R114, R118) -/

/-- What the relay's rows leave: another phase, with endpoint 0, the fault register and the schedule as they were. -/
structure Relayed (ph : Phase) (s t : State) : Prop where
  phase : t.phase = ph
  ep0 : t.ep0 = s.ep0
  fault : t.fault = s.fault
  sched : t.sched = s.sched

theorem Live.exec_bulkOut {s : State} (h : Live s) : ∃ t, exec .bulkOut s = .next t ∧ Relayed .bulkIn s t := by
  obtain ⟨idle, packet, -⟩ := bulkOutRelaysTheLastByte s h.wf
  cases hout : s.epOut.rxout with
  | false => exact ⟨_, idle hout, rfl, rfl, rfl, rfl⟩
  | true => exact ⟨_, packet hout h.inv.bulk.bank_size, rfl, rfl, rfl, rfl⟩

theorem Live.exec_bulkIn {s : State} (h : Live s) : ∃ t, exec .bulkIn s = .next t ∧ Relayed .ctlPoll s t := by
  obtain ⟨idle, item⟩ := bulkInSendsThePendingItem s h.wf
  cases hready : s.epIn.txrdy with
  | false => exact ⟨_, idle (.inr hready), rfl, rfl, rfl, rfl⟩
  | true =>
    have send := fun bytes => item bytes hready h.inv.bulk.inBank.clean
    cases hp : s.relay.pending with
    | none => exact ⟨_, idle (.inl hp), rfl, rfl, rfl, rfl⟩
    | banner => exact ⟨_, send _ (.inl ⟨hp, rfl⟩), rfl, rfl, rfl, rfl⟩
    | echo =>
      obtain ⟨b, hb⟩ := Option.ne_none_iff_exists'.mp (h.inv.echo_has_byte hp)
      exact ⟨_, send _ (.inr ⟨hp, b, hb, rfl⟩), rfl, rfl, rfl, rfl⟩

/-- One turn in a phase of the relay. -/
theorem Live.step_relayed {s : State} {i : Instr} {ph : Phase} {rest : List Turn} (h : Live s)
    (hsched : s.sched = .sequencer :: rest) (hp : s.phase ≠ .ctlPoll) (hi : phaseRow s.phase = some i)
    (row : ∃ t, exec i (afterChoice s) = .next t ∧ Relayed ph (afterChoice s) t) :
    ∃ t, step s = .next t ∧ Live t ∧ t.phase = ph ∧ t.ep0 = s.ep0 ∧ t.sched = rest := by
  obtain ⟨t, ht, ⟨hph, hep, hf, hs⟩⟩ := row
  have hstep := (step_of_phaseRow h.wf h.running (sequencerChosen_afterChoice hsched) hp hi).trans ht
  exact ⟨t, hstep, h.live_step hstep (hf.trans h.running), hph, hep, hs.trans (congrArg List.tail hsched)⟩

theorem Live.live_afterChoice {s : State} (h : Live s) : Live (afterChoice s) := ⟨h.wf, h.inv.of_same, h.running⟩

/-- From BulkOut two turns lead to the poll, with endpoint 0 as it was. -/
theorem Live.run_relay {s : State} {rest : List Turn} (h : Live s) (hp : s.phase = .bulkOut)
    (hsched : s.sched = .sequencer :: .sequencer :: rest) :
    ∃ t, Host.Core.run core 2 s = .next t ∧ Live t ∧ t.phase = .ctlPoll ∧ t.ep0 = s.ep0 ∧ t.sched = rest := by
  obtain ⟨u, hu, live, hphase, hep, hrest⟩ :=
    h.step_relayed hsched (by simp [hp]) (by rw [hp]; rfl) h.live_afterChoice.exec_bulkOut
  obtain ⟨t, ht, live', hphase', hep', hrest'⟩ :=
    live.step_relayed hrest (by simp [hphase]) (by rw [hphase]; rfl) live.live_afterChoice.exec_bulkIn
  exact ⟨t, (run_succ_of_step (M := core) hu 1).trans (run_succ_of_step (M := core) ht 0), live', hphase',
    hep'.trans hep, hrest'⟩

/-! ## The capture (R75, R76) -/

/-- At the poll one turn captures the request in the bank. -/
theorem Live.step_capture {s : State} {q : SetupRequest} {rest : List Turn} (h : Live s) (hp : s.phase = .ctlPoll)
    (hs : s.ep0.rxstp = true) (hq : requestOfBytes s.ep0.outBuf = .ok q) (hsched : s.sched = .sequencer :: rest) :
    ∃ t, step s = .next t ∧ t.setup = some q ∧ t.ep0.rxstp = false := by
  have row : step s = exec (decodeRequest s.params q) (afterChoice s) :=
    step_of_sequencerChosen h.wf (sequencerChosen_afterChoice hsched)
      (fetch_of_setup h.running hp hs (decodeSetup_of_request hq))
  exact ⟨_, row.trans (exec_decodeRequest q (afterChoice s)), serve_setup q _ _, serve_rxstp q _ _⟩

/-- Settles O39: the arrival, the abort, one pass of the relay, and the capture. -/
theorem newSetupAbortsAnyWait : Obligations.NewSetupAbortsAnyWait := by
  rintro s _ p q rest hinv hwf hf hv rfl hq hwait hsched
  have live : Live s := ⟨hwf, hinv, hf⟩
  have arrival := live.step_hostSetup hsched hv
  have live1 := live.live_step arrival hf
  obtain ⟨i, hrow, abort⟩ := exec_wait_of_setup (s := afterChoice (setupReceived p (afterChoice s))) hwait rfl
  have aborted := (step_of_phaseRow (s := setupReceived p (afterChoice s)) hwf hf
    (sequencerChosen_afterChoice (congrArg List.tail hsched)) (Waiting.ne_ctlPoll hwait) hrow).trans abort
  have live2 := live1.live_step aborted hf
  obtain ⟨t4, relay, live4, hpoll, hep, hsched4⟩ := live2.run_relay rfl (congrArg (fun l => l.tail.tail) hsched)
  obtain ⟨t5, capture, hsetup, hidle⟩ :=
    live4.step_capture hpoll (congrArg Endpoint.rxstp hep) (by rw [hep]; exact hq) hsched4
  have run2 := (run_succ_of_step (M := core) arrival 1).trans (run_succ_of_step (M := core) aborted 0)
  have run5 := (run_add_of_run (M := core) 2 3 run2).trans
    ((run_add_of_run (M := core) 2 1 relay).trans (run_succ_of_step (M := core) capture 0))
  exact ⟨_, t5, run2, rfl, rfl, rfl, rfl, run5, hsetup, hidle⟩

end Sys2Proof.Safety
end

section
/-! SUPPORT. The standard requests as whole next states (41_standard_requests.md R90 to R101): the capture step by what
its handler answers, and the two draws of SET_CONFIGURATION. -/

namespace Sys2Proof.Machine

open Sys2Proof.Claims

/-! ## The capture step by its handler's answer (R76 to R78, R82, R84) -/

section
variable {f : Fields} {code : Byte} {handler : State → Res Reply} {s t : State}

theorem serve_of_ok {r : Reply} (h : handler (captured (f.request code) s) = .ok r t) :
    serve (f.request code) handler s = controlPath (f.request code) r t := by
  rw [serve_eq]
  exact congrArg (Res.bind · _) h

/-- A raise inside the handler ends the capture step (R124). -/
theorem serve_of_raised (h : handler (captured (f.request code) s) = .raised t) :
    serve (f.request code) handler s = .raised t := by
  rw [serve_eq]
  exact congrArg (Res.bind · _) h

/-- With endpoint 0 still selected, a success takes the path of the request's direction (R78). -/
theorem serve_of_success {resp : List Byte} (h : handler (captured (f.request code) s) = .ok (.ok resp) t)
    (hsel : t.sel = 0) :
    serve (f.request code) handler s = .ok () (succeeded f resp (f.request code) t) := by
  rw [serve_of_ok h]
  unfold controlPath succeeded
  rw [request_dir]
  cases f.dir with
  | deviceToHost => rfl
  | hostToDevice =>
    dsimp only
    rw [controlWritePath_eq, ← hsel]
    rfl

/-- A handler that refuses has written nothing, and the step stalls on both directions (R78, R84). -/
theorem serve_of_refusal (h : handler (captured (f.request code) s) = .ok .fail (captured (f.request code) s)) :
    serve (f.request code) handler s = .ok () (stalled (captured (f.request code) s)) :=
  (serve_of_ok h).trans (serve_fail (f.request code) s)

end

/-! ## Handlers that read the direction (R90, R93, R94) -/

/-- Settles O14: the handler answers by the direction. -/
theorem getStatusResult : Obligations.GetStatusResult := by
  intro f s
  change answer (serve (f.request StdCode.getStatus) (handleGetStatus f) s) = _
  cases hd : f.dir with
  | deviceToHost =>
    rw [serve_of_success (by rw [handleGetStatus, hd]) rfl, succeeded, hd]
    rfl
  | hostToDevice =>
    rw [serve_of_refusal (by rw [handleGetStatus, hd])]
    rfl

/-- Settles O16: on direction 0 the path is the address path, which earlier lemmas run. -/
theorem setAddressResult : Obligations.SetAddressResult := by
  intro f s
  cases hd : f.dir with
  | hostToDevice =>
    rw [exec_setAddress_out hd, addressPending, newAddress_eq_ofNat]
    rfl
  | deviceToHost =>
    change answer (serve (f.request StdCode.setAddress) (handleSetAddress f) s) = _
    rw [serve_of_refusal (by rw [handleSetAddress, hd])]
    rfl

/-- R56: a pair that lookup does not know names no descriptor. -/
theorem served_of_lookup_none {p : Params} {type index : Byte} (h : lookup p type index = none) :
    served p type index = none := by
  unfold lookup at h
  unfold served
  split_ifs at h ⊢
  rfl

/-- On direction 1 the handler answers the descriptor that the pair names, and its read never raises (R52, R94). -/
theorem handleGetDescriptor_in {f : Fields} (hd : f.dir = .deviceToHost) (s : State) :
    handleGetDescriptor f s = .ok ((served s.params (descType f) (descIndex f)).elim .fail .ok) s := by
  rw [handleGetDescriptor, hd]
  dsimp only
  cases hl : lookup s.params (descType f) (descIndex f) with
  | none => rw [served_of_lookup_none hl]; rfl
  | some place =>
    obtain ⟨off, len⟩ := place
    obtain ⟨bytes, hserved, rfl, lies⟩ := served_of_lookup hl
    rw [hserved]
    exact congrArg (Res.bind · _) lies.memRead_eq

/-- Settles O17: the direction, and on direction 1 whether the pair names a descriptor. -/
theorem getDescriptorResult : Obligations.GetDescriptorResult := by
  intro f s _
  change answer (serve (f.request StdCode.getDescriptor) (handleGetDescriptor f) s) = _
  rw [← hi8_eq_ofNat, ← lo8_eq_ofNat]
  cases hd : f.dir with
  | hostToDevice =>
    rw [serve_of_refusal (by rw [handleGetDescriptor, hd])]
    rfl
  | deviceToHost =>
    have handled : handleGetDescriptor f (captured (f.request StdCode.getDescriptor) s)
        = .ok ((served s.params (hi8 f.wValue) (lo8 f.wValue)).elim .fail .ok)
          (captured (f.request StdCode.getDescriptor) s) :=
      handleGetDescriptor_in hd _
    cases hserved : served s.params (hi8 f.wValue) (lo8 f.wValue) with
    | none =>
      rw [hserved] at handled
      rw [serve_of_refusal handled]
      rfl
    | some bytes =>
      rw [hserved] at handled
      rw [serve_of_success handled rfl, succeeded, hd]
      rfl

/-! ## Handlers with one answer (R91, R92, R96 to R101) -/

/-- Settles O15: both handlers succeed with no byte. -/
theorem featureRequestsSucceed : Obligations.FeatureRequestsSucceed := fun _ _ =>
  ⟨congrArg answer (serve_of_success (handler := handleClearFeature) rfl rfl),
    congrArg answer (serve_of_success (handler := handleSetFeature) rfl rfl)⟩

/-- Settles O19: the handler succeeds with the stored value, which the capture leaves alone. -/
theorem getConfigurationResult : Obligations.GetConfigurationResult := fun _ _ =>
  congrArg answer (serve_of_success (handler := handleGetConfiguration) rfl rfl)

/-- Settles O20: every one of the five handlers is the refusal. -/
theorem unsupportedStandardRequestsStall : Obligations.UnsupportedStandardRequestsStall := by
  intro code f s
  have stall (c : Byte) := congrArg answer (serve_fail (f.request c) s)
  exact ⟨stall _, stall _, stall _, stall _, stall _⟩

/-! ## SET_CONFIGURATION (R36, R95) -/

theorem drawConfigOk_cons {s : State} {b : Bool} {rest : List Bool} (h : s.cfgAnswers = b :: rest) :
    drawConfigOk s = (b, { s with cfgAnswers := rest }) := by
  rw [drawConfigOk, h]

theorem drawConfigOk_sel (s : State) : (drawConfigOk s).2.sel = s.sel := by
  obtain ⟨b, rest, -, hdraw⟩ | ⟨-, hdraw⟩ := drawConfigOk_cases s <;> rw [hdraw]

section
variable {e : EpId} {k : EpKind} {n : Nat} {s : State}

theorem epConfigureOrRaise_taken (h : (drawConfigOk s).1 = true) :
    epConfigureOrRaise e k n s
      = .ok () ((drawConfigOk s).2.setEp e (armedEndpoint (decide (k ≠ .bulkOut)))) := by
  rw [epConfigureOrRaise_eq, if_pos h]
  rfl

theorem epConfigureOrRaise_refused (h : (drawConfigOk s).1 = false) :
    epConfigureOrRaise e k n s = .raised (faulted .endpointConfig (drawConfigOk s).2) := by
  rw [epConfigureOrRaise_eq, if_neg (ne_true_of_eq_false h), raise_eq_faulted]

end

/-- The configuration value of the request, stored (R95). -/
def valueStored (f : Fields) (s : State) : State :=
  { s with cfg := { cfgValue := BitVec.ofNat 8 f.wValue.toNat, curAddr := s.cfg.curAddr } }

/-- The draw that answers for EP_IN: SET_CONFIGURATION's first. -/
def inDraw (f : Fields) (s : State) : Bool × State := drawConfigOk (valueStored f s)

/-- The draw that answers for EP_OUT, after a first draw that was granted. -/
def outDraw (f : Fields) (s : State) : Bool × State := drawConfigOk { (inDraw f s).2 with epIn := armedEndpoint true }

/-- Neither draw selects another endpoint. -/
theorem outDraw_sel (f : Fields) (s : State) : (outDraw f s).2.sel = s.sel :=
  (drawConfigOk_sel _).trans (drawConfigOk_sel _)

/-! The handler by its two draws; a refused one raises with what was written before it kept (R95, R124). -/

section
variable {f : Fields} {s : State}

theorem handleSetConfiguration_eq :
    handleSetConfiguration f s =
      (epConfigureOrRaise .bulkIn .bulkIn Config.bulkSize (valueStored f s)).bind fun _ s =>
      (epConfigureOrRaise .bulkOut .bulkOut Config.bulkSize s).bind fun _ s => .ok (.ok []) s := by
  rw [handleSetConfiguration, configValue, lo8_eq_ofNat]
  rfl

theorem handleSetConfiguration_in_refused (h1 : (inDraw f s).1 = false) :
    handleSetConfiguration f s = .raised (faulted .endpointConfig (inDraw f s).2) := by
  rw [handleSetConfiguration_eq, epConfigureOrRaise_refused (s := valueStored f s) h1]
  rfl

theorem handleSetConfiguration_out_refused (h1 : (inDraw f s).1 = true) (h2 : (outDraw f s).1 = false) :
    handleSetConfiguration f s = .raised (faulted .endpointConfig (outDraw f s).2) := by
  rw [handleSetConfiguration_eq, epConfigureOrRaise_taken (s := valueStored f s) h1, bind_ok]
  exact congrArg (Res.bind · _) (epConfigureOrRaise_refused h2)

theorem handleSetConfiguration_taken (h1 : (inDraw f s).1 = true) (h2 : (outDraw f s).1 = true) :
    handleSetConfiguration f s = .ok (.ok []) { (outDraw f s).2 with epOut := armedEndpoint false } := by
  rw [handleSetConfiguration_eq, epConfigureOrRaise_taken (s := valueStored f s) h1, bind_ok]
  exact congrArg (Res.bind · _) (epConfigureOrRaise_taken h2)

end

/-- Settles O18: the handler's three outcomes, through the capture step around it. -/
theorem setConfigurationResult : Obligations.SetConfigurationResult := by
  intro f s q s1 d1 d2
  cases h1 : d1.1 with
  | false => exact congrArg answer (serve_of_raised (handleSetConfiguration_in_refused (s := captured q s) h1))
  | true =>
    cases h2 : d2.1 with
    | false => exact congrArg answer (serve_of_raised (handleSetConfiguration_out_refused (s := captured q s) h1 h2))
    | true =>
      exact congrArg answer (serve_of_success (handleSetConfiguration_taken (s := captured q s) h1 h2)
        (outDraw_sel f (captured q s)))

/-! ## Reading the configuration back (R95, R96) -/

theorem succeeded_fault (f : Fields) (resp : List Byte) (q : SetupRequest) (t : State) :
    (succeeded f resp q t).fault = t.fault := by
  unfold succeeded
  split <;> rfl

theorem succeeded_cfg (f : Fields) (resp : List Byte) (q : SetupRequest) (t : State) :
    (succeeded f resp q t).cfg = t.cfg := by
  unfold succeeded
  split <;> rfl

theorem succeeded_phase_in {f : Fields} (hd : f.dir = .deviceToHost) (resp : List Byte) (q : SetupRequest) (t : State) :
    (succeeded f resp q t).phase = .inData resp (BitVec.ofNat 16 (min resp.length q.wLength.toNat)) 0 := by
  rw [succeeded, hd]
  rfl

/-- Two granted configurations: SET_CONFIGURATION succeeds with both bulk endpoints armed. -/
theorem exec_setConfiguration_granted (f : Fields) {s : State} {rest : List Bool}
    (h : s.cfgAnswers = true :: true :: rest) :
    exec (.setConfiguration f) s = .next (succeeded f [] (f.request 0x09)
      { valueStored f (captured (f.request 0x09) s) with
        cfgAnswers := rest
        epIn := armedEndpoint true
        epOut := armedEndpoint false }) := by
  have result := setConfigurationResult f s
  dsimp only at result
  rw [drawConfigOk_cons (b := true) (rest := true :: rest) (by exact h),
    drawConfigOk_cons (b := true) (rest := rest) rfl] at result
  exact result

/-- Settles O38: the first request leaves the value in `cfg`, and the second streams what is there. -/
theorem configurationReadsBack : Obligations.ConfigurationReadsBack := by
  intro f g s t rest hanswers hdir hset
  obtain rfl : _ = t := Host.Outcome.next.inj ((exec_setConfiguration_granted f hanswers).symm.trans hset)
  refine ⟨succeeded_fault .., _, getConfigurationResult g _, ?_⟩
  rw [succeeded_phase_in hdir, succeeded_cfg]
  rfl

end Sys2Proof.Machine
end

section
/-! SUPPORT. The vendor requests as whole next states (42_vendor_requests.md R102 to R112): what a request row whose
handler succeeds leads to, and the family's rows as its instances. -/

namespace Sys2Proof.Machine

open Sys2Proof.Claims

/-- A request row whose handler succeeds, with endpoint 0 still selected, takes the path of the request's direction
(R76 to R78). -/
theorem exec_of_success {i : Instr} {f : Fields} {code : Byte} {resp : List Byte} {s t : State}
    (hrow : i.request s.params = some (f.request code))
    (hreply : handlerOf (f.request code) i (captured (f.request code) s) = .ok (.ok resp) t) (hsel : t.sel = 0) :
    exec i s = .next (succeeded f resp (f.request code) t) :=
  (exec_of_request hrow).trans (congrArg answer (serve_of_success hreply hsel))

/-- A row whose handler succeeds and writes nothing: the next state is the capture's own, sent on its way. -/
theorem exec_of_pure_success {i : Instr} {f : Fields} {code : Byte} {resp : List Byte} {s : State}
    (hrow : i.request s.params = some (f.request code))
    (hreply : handlerOf (f.request code) i (captured (f.request code) s)
      = .ok (.ok resp) (captured (f.request code) s)) :
    exec i s = .next (succeeded f resp (f.request code) (captured (f.request code) s)) :=
  exec_of_success hrow hreply rfl

/-- Settles O22: each of the six handlers answers no byte and gives its state back. -/
theorem vendorCommandsAreAcknowledged : Obligations.VendorCommandsAreAcknowledged := by
  intro f s c
  refine ⟨?reset, ?modemCtrl, ?setBaudRate, ?setData, ?setFlowCtrl, ?setLatencyTimer⟩
  all_goals exact exec_of_pure_success rfl rfl

/-- Settles O23: each of the three handlers answers its bytes, which the capture leaves alone, and gives its state
back. -/
theorem vendorReadsAnswerFixedBytes : Obligations.VendorReadsAnswerFixedBytes := by
  intro f s c
  refine ⟨?readEeprom, ?getLatencyTimer, ?getModemStatus⟩
  all_goals exact exec_of_pure_success rfl rfl

/-- R112: the handler answers no byte, and its one write is the diagnostic event with the request's first two bytes. -/
theorem handleVOther_captured (f : Fields) (code : Byte) (s : State) :
    handleVOther (f.request code) (captured (f.request code) s)
      = .ok (.ok []) { captured (f.request code) s with
          diag := s.diag ++ [.unknownVendor f.bmRequestType code] } := rfl

/-- Settles O24: the event is written by the handler, before the direction's path, and it selects no endpoint. -/
theorem otherVendorRequestsAreLogged : Obligations.OtherVendorRequestsAreLogged := by
  intro code f s
  exact exec_of_success rfl (handleVOther_captured f code s) rfl

end Sys2Proof.Machine
end

section
/-! SUPPORT. Where a pending banner comes from (43_bulk_relay.md R115, R120, 60_exceptions.md R134): a trigger byte in
the packet that the inbound check reads or on the serial line, because every other turn leaves the relay's slot alone
or empties it. -/

namespace Sys2Proof.Machine

/-! ## The control side leaves the slot alone (R75 to R84) -/

theorem epConfigureOrRaise_relay (e : EpId) (k : EpKind) (n : Nat) (s : State) :
    (epConfigureOrRaise e k n s).state.relay = s.relay := by
  obtain ⟨as, m, h | h⟩ := epConfigureOrRaise_cases e k n s <;> rw [h]
  · exact setEp_relay _ e _
  · rfl

theorem handleGetDescriptor_relay (f : Fields) (s : State) : (handleGetDescriptor f s).state.relay = s.relay := by
  unfold handleGetDescriptor memRead
  repeat' split
  all_goals rfl

theorem handleSetConfiguration_relay (f : Fields) (s : State) : (handleSetConfiguration f s).state.relay = s.relay :=
  bind_keeps State.relay (epConfigureOrRaise_relay _ _ _ _) fun _ _ h1 =>
    bind_keeps State.relay ((epConfigureOrRaise_relay _ _ _ _).trans h1) fun _ _ h2 => h2

/-- Every other handler writes the pending address or a diagnostic event at most. -/
theorem handlerOf_relay (q : SetupRequest) (i : Instr) (s : State) : (handlerOf q i s).state.relay = s.relay := by
  cases i with
  | getDescriptor f => exact handleGetDescriptor_relay f s
  | setConfiguration f => exact handleSetConfiguration_relay f s
  | getStatus f => obtain ⟨d, -, -, -, -, -⟩ := f; cases d <;> rfl
  | setAddress f => obtain ⟨d, -, -, -, -, -⟩ := f; cases d <;> rfl
  | _ => rfl

theorem controlPath_relay (q : SetupRequest) (r : Reply) (s : State) : (controlPath q r s).state.relay = s.relay := by
  have stalled : (stallPath s).state.relay = s.relay := by rw [stallPath_eq]; rfl
  unfold controlPath
  split
  · rfl
  · exact stalled
  · exact stalled
  · rw [controlWritePath_eq]; rfl
  · rw [addressPath_eq]; rfl
  · exact stalled

/-- No request reaches the slot, raised or not. -/
theorem serve_relay (q : SetupRequest) (i : Instr) (s : State) : (serve q (handlerOf q i) s).state.relay = s.relay := by
  rw [serve_eq]
  exact bind_keeps State.relay (handlerOf_relay q i (capturedState q s)) fun r t ht =>
    (controlPath_relay q r t).trans ht

theorem execInStatus_relay {s t : State} (ht : exec .inStatus s = .next t) : t.relay = s.relay := by
  rw [inStatusResult s] at ht
  cases ht
  repeat' split
  all_goals rfl

theorem execAddrWait_relay {s t : State} (ht : exec .addrWait s = .next t) : t.relay = s.relay := by
  rw [addrWaitResult s] at ht
  cases ht
  repeat' split
  all_goals rfl

/-! ## The bus and startup leave it alone or empty (R129, R130, R34) -/

theorem hostInAt_relay (a : Addr) (e : EpId) (s : State) : (hostInAt a e s).relay = s.relay := by
  obtain ⟨w, h | ⟨-, h⟩⟩ := hostInAt_cases a e s <;> rw [h]
  · rfl
  · exact setEp_relay _ e _

theorem hostOutAt_relay (a : Addr) (e : EpId) (p : List Byte) (s : State) :
    (hostOutAt a e p s).relay = s.relay := by
  obtain ⟨w, h | ⟨-, -, h⟩⟩ := hostOutAt_cases a e p s <;> rw [h]
  · rfl
  · exact setEp_relay _ e _

/-- Startup empties the slot. -/
theorem powerOn_relay (s : State) : (powerOn s).relay = { pending := .none, lastIn := none } :=
  bind_keeps State.relay (epConfigureOrRaise_relay _ _ _ (powerOnValues s)) fun _ _ h => h

/-! ## A banner that was not pending before -/

/-- From s to t a banner became pending. -/
def NewBanner (s t : State) : Prop := s.relay.pending ≠ .banner ∧ t.relay.pending = .banner

theorem NewBanner.relay_ne {s t : State} (h : NewBanner s t) : t.relay ≠ s.relay := by
  obtain ⟨hs, ht⟩ := h
  exact fun kept => hs (kept ▸ ht)

/-- The class of a byte is the banner for the trigger byte alone (30_encoding.md R69). -/
theorem eq_trigger_of_class_banner {b : Byte} (h : (if b = Config.trigger then Pending.banner else .echo) = .banner) :
    b = Config.trigger := by
  by_contra hb
  rw [if_neg hb] at h
  cases h

theorem execSerialRx_newBanner {b : Byte} {s t : State} (ht : execSerialRx b s = .next t) (hnew : NewBanner s t) :
    s.params.serialRxMode = .classify ∧ b = Config.trigger := by
  unfold execSerialRx at ht
  split at ht <;> cases ht
  next hmode =>
    obtain ⟨-, hclass⟩ := hnew
    rw [classify_relayLast] at hclass
    exact ⟨hmode, eq_trigger_of_class_banner hclass⟩
  next => exact absurd rfl hnew.relay_ne

/-- Of the events only a serial byte reaches the slot, and only under `Classify` (R134). -/
theorem event_newBanner {e : Event} {s t : State} (ht : exec e.instr s = .next t) (hnew : NewBanner s t) :
    s.params.serialRxMode = .classify ∧ e = .serialRx Config.trigger := by
  cases e with
  | hostSetup a p =>
    obtain hc | ⟨w, hc | hc⟩ := execHostSetup_cases a p s <;> cases hc.symm.trans ht <;>
      exact absurd rfl hnew.relay_ne
  | hostIn a e =>
    cases ht
    refine absurd ?_ hnew.relay_ne
    split
    · rfl
    · exact hostInAt_relay a (inPipeEp e) s
  | hostOut a e p =>
    cases ht
    refine absurd ?_ hnew.relay_ne
    split
    · rfl
    · exact hostOutAt_relay a (outPipeEp e) p s
  | busReset =>
    obtain hc | ⟨as, m, hc | hc⟩ := execBusReset_cases s <;> cases hc.symm.trans ht <;>
      exact absurd rfl hnew.relay_ne
  | vbusOn => obtain ⟨c, d, hc⟩ := execVbusOn_frame s; cases hc.symm.trans ht; exact absurd rfl hnew.relay_ne
  | vbusOff => obtain ⟨c, d, hc⟩ := execVbusOff_frame s; cases hc.symm.trans ht; exact absurd rfl hnew.relay_ne
  | serialRx b =>
    obtain ⟨hmode, rfl⟩ := execSerialRx_newBanner ht hnew
    exact ⟨hmode, rfl⟩

/-! ## Turns -/

/-- A sequencer that has a row to run is not in the fault state (60_exceptions.md R126). -/
theorem fault_eq_none_of_fetch {s : State} {i : Instr} (h : fetch s = some i) : s.fault = none := by
  cases hf : s.fault with
  | none => rfl
  | some c => rw [fetch_of_fault hf] at h; cases h

theorem nextTurn_event {s : State} {e : Event} (h : (nextTurn s).1 = .event e) :
    ∃ rest, s.sched = .event e :: rest := by
  cases hs : s.sched with
  | nil => simp [nextTurn, hs] at h
  | cons t rest => exact ⟨rest, by simpa [nextTurn, hs] using h⟩

end Sys2Proof.Machine

namespace Sys2Proof.Safety

open Sys2Proof.Machine

/-! ## The sequencer's turn -/

/-- The inbound check keeps the class of the packet's last byte, so a new banner is its trigger byte (R114, R115). -/
theorem Live.execBulkOut_newBanner {s t : State} (h : Live s) (ht : exec .bulkOut s = .next t) (hnew : NewBanner s t) :
    s.epOut.rxout = true ∧ s.epOut.outBuf.getLast? = some Config.trigger := by
  obtain ⟨idle, packet, -⟩ := bulkOutRelaysTheLastByte s h.wf
  cases hx : s.epOut.rxout with
  | false => cases (idle hx).symm.trans ht; exact absurd rfl hnew.relay_ne
  | true =>
    cases (packet hx h.inv.bulk.bank_size).symm.trans ht
    cases hlast : s.epOut.outBuf.getLast? with
    | none => exact absurd (by simp only [hlast]) hnew.relay_ne
    | some b =>
      have class_banner := hnew.2
      simp only [hlast] at class_banner
      exact ⟨rfl, congrArg some (eq_trigger_of_class_banner class_banner)⟩

/-- The outbound check empties the slot or leaves it (R118). -/
theorem Live.not_newBanner_execBulkIn {s t : State} (h : Live s) (ht : exec .bulkIn s = .next t) :
    ¬ NewBanner s t := by
  intro hnew
  obtain ⟨idle, send⟩ := bulkInSendsThePendingItem s h.wf
  cases hready : s.epIn.txrdy with
  | false => cases (idle (.inr hready)).symm.trans ht; exact hnew.relay_ne rfl
  | true =>
    cases hp : s.relay.pending with
    | none => cases (idle (.inl hp)).symm.trans ht; exact hnew.relay_ne rfl
    | banner => exact hnew.1 hp
    | echo =>
      obtain ⟨b, hb⟩ := Option.ne_none_iff_exists'.mp (h.inv.echo_has_byte hp)
      cases (send [b] hready h.inv.bulk.inBank.clean (.inr ⟨hp, b, hb, rfl⟩)).symm.trans ht
      cases hnew.2

theorem Live.execInData_relay {s t : State} {src : List Byte} {total sent : Word} (h : Live s)
    (hp : s.phase = .inData src total sent) (ht : exec (.inData src total sent) s = .next t) : t.relay = s.relay := by
  obtain ⟨abort, early, send, hold⟩ := inDataSendsTheNextPacket src total sent s
  obtain ⟨h1, h2, -⟩ := h.inv.progress src total sent hp
  cases hs : s.ep0.rxstp with
  | true => cases (abort hs).symm.trans ht; rfl
  | false =>
    cases ho : s.ep0.rxout with
    | true => cases (early hs ho).symm.trans ht; rfl
    | false =>
      cases hready : s.ep0.txrdy with
      | true => cases (send hs ho hready h.inv.ctl.inBank.clean h1 h2).symm.trans ht; rfl
      | false => cases (hold hs ho hready).symm.trans ht; rfl

/-- Of the sequencer's rows only the inbound check makes a banner pending. -/
theorem Live.sequencer_newBanner {s t : State} {i : Instr} (h : Live s) (hi : fetch s = some i)
    (ht : exec i s = .next t) (hnew : NewBanner s t) :
    s.phase = .bulkOut ∧ s.epOut.rxout = true ∧ s.epOut.outBuf.getLast? = some Config.trigger := by
  by_cases hsetup : s.phase = .ctlPoll ∧ s.ep0.rxstp = true
  · obtain ⟨hp, hs⟩ := hsetup
    obtain ⟨j, q, hj, hq⟩ := decodeSetup_of_length s.params (h.inv.ctl.setup_bytes hs)
    cases (fetch_of_setup h.running hp hs hj).symm.trans hi
    rw [exec_of_request hq] at ht
    cases ht
    exact absurd (serve_relay q i s) hnew.relay_ne
  · have idle : s.phase = .ctlPoll → s.ep0.rxstp = false := fun hp => by simpa [hp] using hsetup
    rw [fetch_eq_phaseRow h.running idle] at hi
    cases hp : s.phase <;> rw [hp] at hi <;> cases hi
    · cases (pollWithoutSetupGoesToTheRelay s (idle hp)).symm.trans ht
      exact absurd rfl hnew.relay_ne
    · exact absurd (h.execInData_relay hp ht) hnew.relay_ne
    · exact absurd (execInStatus_relay ht) hnew.relay_ne
    · exact absurd (execAddrWait_relay ht) hnew.relay_ne
    · exact ⟨rfl, h.execBulkOut_newBanner ht hnew⟩
    · exact absurd hnew (h.not_newBanner_execBulkIn ht)

/-- Settles O43, turn by turn: the inbound check, the serial line, and startup, which leaves nothing pending. -/
theorem bannerOnlyFromTriggerByte : Obligations.BannerOnlyFromTriggerByte := by
  intro s t hinv hstep hbefore hafter
  have hnew : NewBanner (afterChoice s) t := ⟨hbefore, hafter⟩
  have chosen : Inv (afterChoice s) := hinv.of_same
  obtain ⟨hwf, -⟩ := step_cases hstep
  rw [step_of_wf hwf, nextTurn_state] at hstep
  cases hturn : (nextTurn s).1 with
  | sequencer =>
    rw [hturn] at hstep
    obtain ⟨i, hi, ht⟩ := sequencerTurn_cases hstep
    have live : Live (afterChoice s) := ⟨hwf, chosen, fault_eq_none_of_fetch hi⟩
    exact .inl (live.sequencer_newBanner hi ht hnew)
  | event e =>
    rw [hturn] at hstep
    obtain ⟨-, ht⟩ := eventTurn_cases hstep
    obtain ⟨hmode, rfl⟩ := event_newBanner ht hnew
    exact .inr ⟨hmode, nextTurn_event hturn⟩
  | powerOn =>
    rw [hturn] at hstep
    cases hstep
    rw [powerOn_relay] at hafter
    cases hafter

end Sys2Proof.Safety
end

section
/-! SUPPORT. The environment's events and the fault state (60_exceptions.md R124 to R134, R139): the whole result of
each event by the endpoint's flags and the hardware's answer, and what no event writes. -/

namespace Sys2Proof.Machine

open Sys2Proof.Claims

/-! ## What no event writes (R139) -/

/-- From s to t the selected endpoint and the recorded request are as they were. -/
def SelectionKept (s t : State) : Prop := t.sel = s.sel ∧ t.setup = s.setup

theorem SelectionKept.of_eq {s t : State} (hsel : t.sel = s.sel := by rfl) (hsetup : t.setup = s.setup := by rfl) :
    SelectionKept s t := ⟨hsel, hsetup⟩

theorem hostInAt_selectionKept (a : Addr) (e : EpId) (s : State) : SelectionKept s (hostInAt a e s) := by
  obtain ⟨w, h | ⟨-, h⟩⟩ := hostInAt_cases a e s <;> rw [h]
  · exact .of_eq
  · exact .of_eq (setEp_sel _ _ _) (setEp_setup _ _ _)

theorem hostOutAt_selectionKept (a : Addr) (e : EpId) (p : List Byte) (s : State) :
    SelectionKept s (hostOutAt a e p s) := by
  obtain ⟨w, h | ⟨-, -, h⟩⟩ := hostOutAt_cases a e p s <;> rw [h]
  · exact .of_eq
  · exact .of_eq (setEp_sel _ _ _) (setEp_setup _ _ _)

/-- No event writes the selection or the request, a bus reset that raises included. -/
theorem event_selectionKept {e : Event} {s t : State} (h : exec e.instr s = .next t) : SelectionKept s t := by
  cases e with
  | hostSetup a p =>
    obtain h' | ⟨w, h' | h'⟩ := execHostSetup_cases a p s <;> cases h'.symm.trans h <;> exact .of_eq
  | hostIn a e =>
    cases h
    split
    · exact .of_eq
    · exact hostInAt_selectionKept a (inPipeEp e) s
  | hostOut a e p =>
    cases h
    split
    · exact .of_eq
    · exact hostOutAt_selectionKept a (outPipeEp e) p s
  | busReset =>
    obtain h' | ⟨as, m, h' | h'⟩ := execBusReset_cases s <;> cases h'.symm.trans h <;> exact .of_eq
  | vbusOn => obtain ⟨c, d, h'⟩ := execVbusOn_frame s; cases h'.symm.trans h; exact .of_eq
  | vbusOff => obtain ⟨c, d, h'⟩ := execVbusOff_frame s; cases h'.symm.trans h; exact .of_eq
  | serialRx b =>
    obtain h' | h' := execSerialRx_cases b s <;> cases h'.symm.trans h
    · exact .of_eq
    · rw [classify_relayLast]; exact .of_eq

/-- Where the phase moved, a raise moved it, and the register holds a code. -/
theorem FaultKept.phase_cases {s t : State} (h : FaultKept s t) :
    t.phase = s.phase ∨ t.phase = .halted ∧ t.fault ≠ none := by
  obtain ⟨-, hp⟩ | ⟨c, hf, hp⟩ := h
  · exact .inl hp
  · exact .inr ⟨hp, by simp [hf]⟩

/-- Settles O51: the selection's frame, and the two ways an event leaves the phase. -/
theorem eventsKeepPhaseAndSelection : Obligations.EventsKeepPhaseAndSelection := by
  intro e s t h
  obtain ⟨hsel, hsetup⟩ := event_selectionKept h
  exact ⟨hsel, hsetup, (event_faultKept h).phase_cases⟩

/-! ## Host steps with bus power (R28, R128 to R130) -/

/-- An accepted SETUP leaves nothing of an armed endpoint as it was but that it is armed. -/
theorem setupArrived_of_armed {x : Endpoint} (p : List Byte) (h : x.armed = true) :
    x.setupArrived p = { armedEndpoint true with rxstp := true, outBuf := p } := by
  rw [Endpoint.setupArrived, h]
  rfl

/-- Settles O44: at the device's address and armed, or timed out. -/
theorem hostSetupResult : Obligations.HostSetupResult := by
  intro a p s hv
  change execHostSetup a p s = .next (if a ≠ s.effAddr ∨ s.ep0.armed = false then _ else _)
  rw [execHostSetup, if_neg (ne_false_of_eq_true hv)]
  split
  next => rfl
  next reached =>
    have harmed : s.ep0.armed = true := by simpa using (not_or.mp reached).2
    rw [setupArrived_of_armed _ harmed]
    rfl

/-- What the host sees of an IN to an endpoint of number e, the device being at addr (R129). -/
def hostInEntry (a addr : Addr) (e : EpNum) (x : Endpoint) : WireEntry :=
  if a ≠ addr ∨ x.armed = false then .timeout a e
  else if x.stall = true then .stall e
  else match x.inQ with
    | some q => .inData e q
    | none => .nak e

/-- The endpoint after an IN at the device's address (R129). -/
def hostInTaken (x : Endpoint) : Endpoint :=
  if x.armed = true ∧ x.stall = false ∧ x.inQ ≠ none then { x with inQ := none, txrdy := true } else x

/-- R129 on any endpoint: the wire entry, and the queued packet taken where the host reaches it. -/
theorem hostInAt_eq (a : Addr) (e : EpId) (s : State) :
    hostInAt a e s = emitWire (hostInEntry a s.effAddr (e.number s.params) (s.ep e))
      (s.setEp e (if a = s.effAddr then hostInTaken (s.ep e) else s.ep e)) := by
  have untouched {x : Endpoint} {w : WireEntry} (hx : x = s.ep e) : emitWire w s = emitWire w (s.setEp e x) := by
    rw [hx, setEp_ep]
  unfold hostInAt hostInEntry
  split
  next missed =>
    refine untouched ?_
    obtain haddr | hunarmed := missed
    · exact if_neg haddr
    · simp [hostInTaken, hunarmed]
  next reached =>
    obtain ⟨haddr, harmed⟩ := not_or.mp reached
    rw [if_pos (not_not.mp haddr)]
    split
    next hstall => exact untouched (by simp [hostInTaken, hstall])
    next hstall =>
      cases hq : (s.ep e).inQ with
      | none => exact untouched (by simp [hostInTaken, hq])
      | some q =>
        have taken : hostInTaken (s.ep e) = { s.ep e with inQ := none, txrdy := true } :=
          if_pos ⟨by simpa using harmed, by simpa using hstall, by simp [hq]⟩
        rw [taken]
        cases e <;> rfl

theorem exec_hostIn_of_vbus {s : State} (a : Addr) (e : InPipe) (hv : s.vbus = true) :
    exec (.hostIn a e) s = .next (hostInAt a (inPipeEp e) s) :=
  congrArg Host.Outcome.next (if_neg (ne_false_of_eq_true hv))

/-- Settles O45: the one law of a host IN, at each of the two endpoints. -/
theorem hostInResult : Obligations.HostInResult := by
  intro a s hv
  exact ⟨(exec_hostIn_of_vbus a .ctl hv).trans (congrArg Host.Outcome.next (hostInAt_eq a .ctl s)),
    (exec_hostIn_of_vbus a .bulk hv).trans (congrArg Host.Outcome.next (hostInAt_eq a .bulkIn s))⟩

theorem exec_hostOut_of_vbus {s : State} (a : Addr) (e : OutPipe) (p : List Byte) (hv : s.vbus = true) :
    exec (.hostOut a e p) s = .next (hostOutAt a (outPipeEp e) p s) :=
  congrArg Host.Outcome.next (if_neg (ne_false_of_eq_true hv))

/-- R130 on any endpoint, with the test of its bank said as `busy`. -/
theorem hostOutAt_eq {e : EpId} {s : State} {busy : Prop} [Decidable busy] (a : Addr) (p : List Byte)
    (h : ((s.ep e).rxout = true ∨ (e = .ctl ∧ s.ep0.rxstp = true)) ↔ busy) :
    hostOutAt a e p s =
      if a ≠ s.effAddr ∨ (s.ep e).armed = false then emitWire (.timeout a (e.number s.params)) s
      else if (s.ep e).stall = true then emitWire (.stall (e.number s.params)) s
      else if busy then emitWire (.nak (e.number s.params)) s
      else (emitWire (.outAck (e.number s.params) p.length) s).setEp e { s.ep e with outBuf := p, rxout := true } :=
  if_congr .rfl rfl (if_congr .rfl rfl (if_congr h rfl rfl))

/-- Settles O46: the two endpoints differ in the test of the bank alone, where endpoint 0 also looks at `rxstp`. -/
theorem hostOutResult : Obligations.HostOutResult := by
  intro a p s hv
  have ctlBusy : (s.ep0.rxout = true ∨ (EpId.ctl = .ctl ∧ s.ep0.rxstp = true)) ↔
      (s.ep0.rxout = true ∨ s.ep0.rxstp = true) := by simp
  have bulkBusy : (s.epOut.rxout = true ∨ (EpId.bulkOut = .ctl ∧ s.ep0.rxstp = true)) ↔ s.epOut.rxout = true := by
    simp
  exact ⟨(exec_hostOut_of_vbus a .ctl p hv).trans (congrArg Host.Outcome.next (hostOutAt_eq a p ctlBusy)),
    (exec_hostOut_of_vbus a .bulk p hv).trans (congrArg Host.Outcome.next (hostOutAt_eq a p bulkBusy))⟩

/-! ## Bus reset (R131, R148) -/

theorem drawConfigOk_wire (s : State) : (drawConfigOk s).2.wire = s.wire := by
  obtain ⟨b, rest, -, hdraw⟩ | ⟨-, hdraw⟩ := drawConfigOk_cases s <;> rw [hdraw]

theorem execBusReset_refused {s : State} (hv : s.vbus = true) (h : (drawConfigOk (endOfReset s)).1 = false) :
    execBusReset s = .next (faulted .endpointConfig (drawConfigOk (endOfReset s)).2) := by
  rw [execBusReset, if_neg (ne_false_of_eq_true hv), epConfigureOrRaise_refused h]
  rfl

theorem execBusReset_taken {s : State} (hv : s.vbus = true) (h : (drawConfigOk (endOfReset s)).1 = true) :
    execBusReset s = .next { (drawConfigOk (endOfReset s)).2 with
      ep0 := armedEndpoint true
      wire := s.wire ++ [.busReset] } := by
  rw [execBusReset, if_neg (ne_false_of_eq_true hv), epConfigureOrRaise_taken h, ← endOfReset_wire s,
    ← drawConfigOk_wire (endOfReset s)]
  rfl

/-- Settles O47, by the hardware's answer for endpoint 0. -/
theorem busResetResult : Obligations.BusResetResult := by
  intro s hv
  change execBusReset s = .next (if (drawConfigOk (endOfReset s)).1 = false then _ else _)
  split
  next refused => exact execBusReset_refused hv refused
  next taken => exact execBusReset_taken hv (by simpa using taken)

/-! ## Bus power and the serial line (R132 to R134) -/

/-- Settles O49: each event's match on the connection state, as the statement's test of it. -/
theorem powerEventsDriveTheConnection : Obligations.PowerEventsDriveTheConnection := by
  intro s
  change execVbusOn s = _ ∧ execVbusOff s = _
  unfold execVbusOn execVbusOff
  cases s.conn with
  | disconnected => exact ⟨rfl, rfl⟩
  | enumerated => exact ⟨rfl, rfl⟩

/-- Settles O50, by the mode of the serial line. -/
theorem serialReceiveResult : Obligations.SerialReceiveResult := by
  intro b s
  change execSerialRx b s = _
  unfold execSerialRx
  cases s.params.serialRxMode with
  | classify => exact congrArg Host.Outcome.next (classify_relayLast b s)
  | ignored => rfl

/-! ## The fault state (R22, R124, R126) -/

theorem raiseFault_eq_faulted (c : FaultCode) (s : State) : raiseFault c s = faulted c s :=
  Res.raised.inj (raise_eq_faulted (α := Unit) c s)

/-- Settles O52, by what the register held. -/
theorem raiseEntersTheFaultState : Obligations.RaiseEntersTheFaultState := by
  intro c s
  rw [raiseFault_eq_faulted]
  refine ⟨fun empty => ?_, fun c' held => ?_⟩
  · rw [faulted, if_pos empty]
  · rw [faulted, if_neg (by simp [held])]

/-- In the fault state there is no row to run, and the turn answers the register. -/
theorem sequencerTurn_of_fault {s : State} {c : FaultCode} (h : s.fault = some c) :
    sequencerTurn s = .fault (.halted (some c)) := by
  rw [sequencerTurn, fetch_of_fault h, h]

theorem fault_of_sequencerChosen {s s' : State} (h : sequencerChosen s s') : s'.fault = s.fault := by
  obtain ⟨-, rfl⟩ | ⟨rest, -, rfl⟩ := h <;> rfl

/-- Settles O53: the chosen sequencer stands in the same fault state. -/
theorem faultedSequencerTurnFaults : Obligations.FaultedSequencerTurnFaults := by
  intro s s' c hwf hc chosen
  rw [step_of_wf hwf, nextTurn_of_sequencerChosen chosen]
  exact sequencerTurn_of_fault ((fault_of_sequencerChosen chosen).trans hc)

end Sys2Proof.Machine
end

section
/-! SUPPORT. Power-on startup (70_reset_and_hazards.md R146, R34): endpoint 0's draw on the reset values, and the
turn's next state by the hardware's answer. -/

namespace Sys2Proof.Machine

open Sys2Proof.Claims

/-! ## The draw and the reset values (R34, R36) -/

/-- The draw touches the model's own two fields only. -/
theorem drawConfigOk_state (s : State) : (drawConfigOk s).2 =
    { s with cfgAnswers := (drawConfigOk s).2.cfgAnswers, cfgDraws := (drawConfigOk s).2.cfgDraws } := by
  obtain ⟨b, rest, -, hdraw⟩ | ⟨-, hdraw⟩ := drawConfigOk_cases s <;> rw [hdraw]

theorem drawConfigOk_nil {s : State} (h : s.cfgAnswers = []) :
    drawConfigOk s = (Config.epConfigOk s.cfgDraws, { s with cfgDraws := s.cfgDraws + 1 }) := by
  rw [drawConfigOk, h]

/-- Startup keeps what the draw reads, so drawing after the reset is drawing before it. -/
theorem drawConfigOk_powerOnValues (s : State) :
    drawConfigOk (powerOnValues s) = ((drawConfigOk s).1, powerOnValues (drawConfigOk s).2) := by
  cases answers : s.cfgAnswers with
  | nil =>
    rw [drawConfigOk_nil answers, drawConfigOk_nil (s := powerOnValues s) answers]
    rfl
  | cons b rest =>
    rw [drawConfigOk_cons answers, drawConfigOk_cons (s := powerOnValues s) answers]
    rfl

/-- The reset values after the draw: everything but the draw's two fields is as before it. -/
theorem powerOnValues_drawConfigOk (s : State) : powerOnValues (drawConfigOk s).2 =
    { State.reset with
      params := s.params
      vbus := s.vbus
      sched := s.sched
      cfgAnswers := (drawConfigOk s).2.cfgAnswers
      cfgDraws := (drawConfigOk s).2.cfgDraws } := by
  rw [drawConfigOk_state s]
  rfl

/-! ## Startup by the hardware's answer (R146) -/

/-- The reset values hold endpoint 0 as configured already, so a granted configuration adds nothing to them. -/
theorem powerOn_taken {s : State} (h : (drawConfigOk s).1 = true) : powerOn s = powerOnValues (drawConfigOk s).2 := by
  have taken : (drawConfigOk (powerOnValues s)).1 = true := by rw [drawConfigOk_powerOnValues, h]
  rw [powerOn, epConfigureOrRaise_taken taken, drawConfigOk_powerOnValues]
  rfl

theorem powerOn_refused {s : State} (h : (drawConfigOk s).1 = false) :
    powerOn s = faulted .endpointConfig (powerOnValues (drawConfigOk s).2) := by
  have refused : (drawConfigOk (powerOnValues s)).1 = false := by rw [drawConfigOk_powerOnValues, h]
  rw [powerOn, epConfigureOrRaise_refused refused, drawConfigOk_powerOnValues]
  rfl

theorem step_powerOn {s : State} {rest : List Turn} (hwf : s.params.wf = true) (hsched : s.sched = .powerOn :: rest) :
    step s = .next (powerOn { s with sched := rest }) := by
  rw [step_of_wf hwf, nextTurn, hsched]
  rfl

/-- Settles O6, by the hardware's answer for endpoint 0. -/
theorem powerOnStartsTheMachine : Obligations.PowerOnStartsTheMachine := by
  intro s rest hwf hsched d fresh
  have hfresh : powerOnValues d.2 = fresh := powerOnValues_drawConfigOk { s with sched := rest }
  rw [step_powerOn hwf hsched, ← hfresh]
  cases answer : d.1 with
  | true => rw [powerOn_taken answer, if_pos rfl]
  | false => rw [powerOn_refused answer, if_neg Bool.false_ne_true]

end Sys2Proof.Machine
end
